-- ==== Sys2Proof/Word.lean ====
section
/-! DEFINITION. The block's smallest unit of data: the 8-bit byte, and finite byte sequences
(00_scope.md section 5; 20_memory.md R60: "A byte is 8 bits"). -/

namespace Sys2Proof

/-- A byte: 8 bits (R60). -/
abbrev Byte := BitVec 8

/-- A byte sequence; the head is `B[0]`, the first byte of the buffer (00_scope.md section 5). -/
abbrev Bytes := List Byte

end Sys2Proof
end

