-- ==== Sys2Proof/Machine/Bytes.lean ====
section
/-! DEFINITION. Integers and byte sequences (00_scope.md section 5). The byte order is decided here once: big-endian,
the byte at the lower offset the more significant (20_memory.md R64, R65, R67). -/

namespace Sys2Proof.Machine

/-- `be(n, v)`: the `n`-byte big-endian sequence of `v`; byte `k` is `v[8(n-1-k)+7 : 8(n-1-k)]`. -/
def be : Nat → Nat → Bytes
  | 0, _ => []
  | n + 1, v => BitVec.ofNat 8 (v >>> (8 * n)) :: be n v

/-- `int_be(B)`: the unsigned integer of `8 * len(B)` bits whose most significant byte is `B[0]`. -/
def intBe : Bytes → Nat
  | [] => 0
  | b :: bs => b.toNat * 2 ^ (8 * bs.length) + intBe bs

/-- The bytes `B[off .. off+n-1]` of a buffer (`MemRead` of 00_scope.md section 5). -/
def slice (b : Bytes) (off n : Nat) : Bytes := (b.drop off).take n

/-- The unsigned value of the `n` bytes at `off`, as a field of `w` bits. -/
def field (w : Nat) (b : Bytes) (off n : Nat) : BitVec w := BitVec.ofNat w (intBe (slice b off n))

end Sys2Proof.Machine
end

