-- ==== Sys2Proof/Machine/Params.lean ====
section
/-! DEFINITION. The constants of 00_scope.md R7, with the frame's field lengths (30_encoding.md R90), the families
(R101), the select codes (R120) and the ranges of the scale maps (43_command_model.md R262, R263): one definition for
each literal, so that a literal an audit corrects changes one definition (R8). What follows from another constant is
computed from it. -/

namespace Sys2Proof.Machine

/-- `CRC_WIDTH`, bits of the CRC register (R7). -/
abbrev crcWidth : Nat := 16
/-- `CRC_POLY`, the generator with its top bit implicit (R7, R181). -/
def crcPoly : BitVec crcWidth := 0x1021#16
/-- `CRC_INIT` (R7). -/
def crcInit : BitVec crcWidth := 0xFFFE#16
/-- `CRC_REFIN`: the bits of an input byte are reflected (R7). -/
def crcRefIn : Bool := false
/-- `CRC_REFOUT`: the result is reflected (R7). -/
def crcRefOut : Bool := false
/-- `CRC_XOROUT`, the final XOR (R7). -/
def crcXorOut : BitVec crcWidth := 0x0000#16
/-- `PREAMBLE` (R7). -/
def preamble : BitVec 64 := 0x533914DD1C493412#64
/-- The bytes of `PREAMBLE`: "8-byte frame prefix" (R7). -/
abbrev preambleLen : Nat := 8
/-- `PRE`, the preamble as bytes (R140). -/
def preambleBytes : Bytes := be preambleLen preamble.toNat

/-! The fields of a frame after the preamble, in bytes (R90), and the lengths that follow from them. -/

/-- Bytes of the device id (R90). -/
abbrev idLen : Nat := 3
/-- Bytes of the separator (R90). -/
abbrev sepLen : Nat := 1
/-- Bytes of the counter (R90). -/
abbrev counterLen : Nat := 1
/-- Bytes of the command code (R90). -/
abbrev codeLen : Nat := 2
/-- Bytes of the CRC field: the CRC register's (R90). -/
abbrev crcLen : Nat := crcWidth / 8
/-- Offset of the separator (R90). -/
abbrev sepAt : Nat := preambleLen + idLen
/-- Offset of the counter (R90). -/
abbrev counterAt : Nat := sepAt + sepLen
/-- Offset of the command code (R90). -/
abbrev codeAt : Nat := counterAt + counterLen
/-- `WINDOW_LEN` = 15, the bytes in front of the CRC field, which are those under the CRC (R7, R92). -/
def windowLen : Nat := codeAt + codeLen
/-- `FRAME_LEN` = 17, bytes of a frame (R7). -/
def frameLen : Nat := windowLen + crcLen
/-- `PAYLOAD_BITS` = 72, bits kept by `decode`: the fields after the preamble (R7, R94). -/
abbrev payloadBits : Nat := 8 * (idLen + sepLen + counterLen + codeLen + crcLen)

/-! Steps. -/

/-- `STEP_MIN` (R7). -/
def stepMin : Int := 0
/-- `STEP_MAX` (R7). -/
abbrev stepMax : Nat := 15
/-- The bits that a value up to `m` takes in a code's argument byte: one nibble where it fits, else the byte (R102). -/
abbrev argBits (m : Nat) : Nat := 4 * (1 + (m / 16 + 15) / 16)
/-- Bits of the step field of a command code: 4, a nibble (R102). -/
abbrev stepBits : Nat := argBits stepMax
/-- `SAT_STEP`, the saturate step (R7, R103). -/
def satStep : Nat := 16
/-- `TX_PAYLOAD`, which "equals `FRAME_LEN`"; `RX_PAYLOAD` "equals `CAP_LEN`", a configuration register (R7). -/
def txPayload : Nat := frameLen
/-- The step of a request that leaves it out (R121, R221). -/
def stepDefault : Int := 1

/-! The command families (R101, R102). -/

/-- The family of power toggle. -/
abbrev familyPower : Nat := 0x01
/-- The family of cooler. -/
abbrev familyCooler : Nat := 0x02
/-- The family of warmer. -/
abbrev familyWarmer : Nat := 0x03
/-- The family of brighter. -/
abbrev familyBrighter : Nat := 0x04
/-- The family of dimmer. -/
abbrev familyDimmer : Nat := 0x05
/-- The family of reset. -/
abbrev familyReset : Nat := 0x06

/-! The select codes (R120). -/

/-- `INIT` (R120). -/
abbrev opInit : Byte := 0x00
/-- `SHUTDOWN` (R120). -/
abbrev opShutdown : Byte := 0x01
/-- `ENCODE` (R120). -/
abbrev opEncode : Byte := 0x10
/-- `DECODE` (R120). -/
abbrev opDecode : Byte := 0x11
/-- `GOODPKT` (R120). -/
abbrev opGoodpkt : Byte := 0x12
/-- `CRC.START` (R120). -/
abbrev opCrcStart : Byte := 0x20
/-- `CRC.BYTE` (R120). -/
abbrev opCrcByte : Byte := 0x21
/-- `CRC.READ` (R120). -/
abbrev opCrcRead : Byte := 0x22
/-- `CRC.SUM` (R120). -/
abbrev opCrcSum : Byte := 0x23
/-- `PWR` (R120). -/
abbrev opPwr : Byte := 0x30
/-- `COOL` (R120). -/
abbrev opCool : Byte := 0x31
/-- `WARM` (R120). -/
abbrev opWarm : Byte := 0x32
/-- `BRT` (R120). -/
abbrev opBrt : Byte := 0x33
/-- `DIM` (R120). -/
abbrev opDim : Byte := 0x34
/-- `RST` (R120). -/
abbrev opRst : Byte := 0x35
/-- `SETBRT` (R120). -/
abbrev opSetbrt : Byte := 0x36
/-- `SETCT` (R120). -/
abbrev opSetct : Byte := 0x37
/-- `SEND` (R120). -/
abbrev opSend : Byte := 0x38
/-- `SCALE.BRT` (R120). -/
abbrev opScaleBrt : Byte := 0x39
/-- `SCALE.CT` (R120). -/
abbrev opScaleCt : Byte := 0x3A
/-- `SWMODE` (R120). -/
abbrev opSwmode : Byte := 0x40
/-- `TRYSW` (R120). -/
abbrev opTrysw : Byte := 0x41
/-- `RXPOLL` (R120). -/
abbrev opRxpoll : Byte := 0x50
/-- `LISTEN` (R120). -/
abbrev opListen : Byte := 0x51

/-! The ranges of the scale maps (R262, R263). Each corner is an input with the value at it. -/

/-- The top of the internal scale (R262, R263). -/
abbrev scaleTop : Nat := 15
/-- Bits of a scaled value: 4 (R121). -/
abbrev scaleBits : Nat := argBits scaleTop
/-- The top of the external brightness scale, 255, and of the internal one, 15 (R262). -/
def brtTop : Nat × Nat := (255, scaleTop)
/-- The least mireds and their value (R263). -/
def ctLow : Nat × Nat := (153, scaleTop)
/-- The corner of the two segments (R263). -/
def ctCorner : Nat × Nat := (219, 7)
/-- The most mireds and their value (R263). -/
def ctHigh : Nat × Nat := (370, 0)

end Sys2Proof.Machine
end

