-- ==== Sys2Proof/Machine/Layout.lean ====
section
/-! DEFINITION. The layout of a frame, written down once (30_encoding.md R90): the window under the CRC, then the CRC field. -/

namespace Sys2Proof.Machine

/-- `window(id, sep, counter, code)`: the `WINDOW_LEN` bytes under a frame's CRC (R141). -/
def window (id : BitVec 24) (sep counter : Byte) (code : BitVec 16) : Bytes :=
  preambleBytes ++ be idLen id.toNat ++ [sep] ++ [counter] ++ be codeLen code.toNat

/-- The bytes of a frame with these fields: the window, then the CRC field, big-endian (R90, R65). -/
def frameBytes (id : BitVec 24) (sep counter : Byte) (code crc : BitVec 16) : Bytes :=
  window id sep counter code ++ be crcLen crc.toNat

end Sys2Proof.Machine
end

