-- ==== Sys2Proof/Config.lean ====
section
/-! DEFINITION. What an implementation or a session fixes (00_scope.md R7, 10_state.md R41), the build
parameters that no operation loads, and the free values: the answers of the environment once a
state's own script of them is used up (10_state.md R45). -/

namespace Sys2Proof

/-- `SUB_WIDTH`, the number of bits over which "`base − step`" borrows (R7, R101; 90_conflicts.md C1). -/
inductive SubWidth where
  | w8
  | w16
  deriving DecidableEq, Repr

/-- The driver's power level. The spec names `LOW` and leaves the driver's other values to the driver (R41). -/
inductive PowerLevel where
  | low
  | driver (value : Nat)
  deriving DecidableEq, Repr

/-- The driver's data rate. The spec names 2 Mbps and leaves the driver's other values to the driver (R41). -/
inductive DataRate where
  | mbps2
  | driver (value : Nat)
  deriving DecidableEq, Repr

/-- The driver's own hardware CRC mode. The spec names "disabled" (R41, R352). -/
inductive CrcMode where
  | disabled
  | driver (value : Nat)
  deriving DecidableEq, Repr

/-- A pipe or address, opaque to the block (R41: "opaque", OPEN): the block only hands it to `drv.open`. -/
abbrev Pipe := Nat

/-- The session configuration: one field for each `CFG_` register of R41, at the width R41 gives. -/
structure SessionConfig where
  /-- `CFG_SEP`, the separator byte. -/
  sep : Byte
  /-- `CFG_CAP_LEN`, bytes read per capture. -/
  capLen : BitVec 8
  /-- `CFG_STRIP_MSB`, leading bits `decode` strips. -/
  stripMsb : BitVec 16
  /-- `CFG_STRIP_LSB`, trailing bits `decode` strips. -/
  stripLsb : BitVec 16
  /-- `CFG_PWR_ARG`, low byte of the power-toggle code. -/
  pwrArg : Byte
  /-- `CFG_RST_ARG`, low byte of the reset code. -/
  rstArg : Byte
  /-- `CFG_REPEAT`, driver writes per frame. -/
  repeatCount : BitVec 16
  /-- `CFG_DELAY_MS`, delay after each driver write. -/
  delayMs : BitVec 16
  /-- `CFG_MAX_RETRIES`, attempts of `TRYSW`. -/
  maxRetries : BitVec 8
  /-- `CFG_BACKOFF_MS`, delay between attempts. -/
  backoffMs : BitVec 16
  /-- `CFG_POLL_MS`, delay between polls. -/
  pollMs : BitVec 16
  /-- `CFG_CHANNEL`, passed to `drv.configure`. -/
  channel : BitVec 8
  /-- `CFG_POWER`, passed to `drv.configure`. -/
  power : PowerLevel
  /-- `CFG_DATARATE`, passed to `drv.configure`. -/
  dataRate : DataRate
  /-- `CFG_CRCMODE`, passed to `drv.configure`. -/
  crcMode : CrcMode
  /-- `CFG_PIPE_TX`, passed to `drv.open` for Transmitting. -/
  pipeTx : Pipe
  /-- `CFG_PIPE_RX`, passed to `drv.open` for Listening. -/
  pipeRx : Pipe
  deriving DecidableEq, Repr

/-- The parameters of the hardware build (R7: "properties of the hardware build and not registers").
The two scale maps are functions in the spec; here each is plain data, a finite list of the points
at which the build departs from the spec's default map, so that every map of R262 and R263 can be
written down and an empty list is the spec's default. -/
structure Build where
  /-- `SUB_WIDTH`. -/
  subWidth : SubWidth
  /-- Points of `scale_brt` that differ from its default: (input, value). -/
  scaleBrt : List (Nat × BitVec Machine.scaleBits)
  /-- Points of `rnd`'s map that differ from its default: (mireds, value). -/
  scaleCt : List (Nat × BitVec Machine.scaleBits)
  deriving DecidableEq, Repr

/-! Free values. R45: "None of them is constrained by any rule of this spec". Each is applied to a counter of
State that moves at every use, so no two draws are tied together (assumption 3). -/

/-- The answer of `drv.isConnected()` at draw `n`. -/
opaque Config.connected (n : Nat) : Bool
/-- The input `tx_inflight` at draw `n` (R46). -/
opaque Config.txInflight (n : Nat) : Bool
/-- The answer of `drv.writeBlocking` at draw `n`. -/
opaque Config.writeOk (n : Nat) : Bool
/-- The answer of `drv.pollAvailable()` at draw `n`: nothing, or bytes and a pipe index. -/
opaque Config.pollAnswer (n : Nat) : Option (Bytes × Nat)
/-- The input `shutdown_req` at draw `n` (R375). -/
opaque Config.shutdownReq (n : Nat) : Bool

end Sys2Proof
end

