-- ==== Sys2Proof/Machine/Codes.lean ====
section
/-! DEFINITION. The assembly of command codes (30_encoding.md R101 to R103), by the operations that emit them and by the
table that reads them alike, and the two scale maps (43_command_model.md R262, R263). -/

namespace Sys2Proof.Machine

/-- `add(family, t) = family * 256 + t` (R222). -/
def addCode (family t : Nat) : BitVec 16 := BitVec.ofNat 16 (family * 256 + t)

/-- `sub(family, t)` (R101, R222): over the argument byte when `SUB_WIDTH` = 8, over the whole code when it is 16. -/
def subCode (w : SubWidth) (family t : Nat) : BitVec 16 :=
  match w with
  | .w8 => BitVec.ofNat 16 (family * 256 + (256 - t) % 256)
  | .w16 => BitVec.ofNat 16 ((family * 256 + 65536 - t) % 65536)

/-- `16 - n`, with 16 the number of values of the step field: a warmer or dimmer code holds `n = 16 - t` of its step `t`,
so this gives the step from the field and the field from the step (R102). -/
def borrowed (n : Nat) : Nat := 2 ^ stepBits - n

/-- Step `t` is one that a cooler or brighter code carries (R102). -/
def addStep (t : BitVec stepBits) : Bool := decide (t.toNat ≤ stepMax)

/-- Field `n` is one that a warmer or dimmer code carries, of a step from 1 up (R102). -/
def subStep (n : BitVec stepBits) : Bool := n != 0 && decide (borrowed n.toNat ≤ stepMax)

/-- The mask of the fixed bits of a code whose low `k` bits are its field (R102). -/
def codeMask (k : Nat) : BitVec 16 := BitVec.allOnes 16 <<< k

/-- The default of `scale_brt`: the linear map rounded to nearest, `(15*b + 127) div 255` (R262). -/
def scaleBrtDefault (b : Nat) : BitVec scaleBits := BitVec.ofNat scaleBits ((brtTop.2 * b + brtTop.1 / 2) / brtTop.1)

/-- `scale_brt` of a build: the value the build lists for `b`, else the default. -/
def scaleBrtOf (bld : Build) (b : Nat) : BitVec scaleBits := (bld.scaleBrt.lookup b).getD (scaleBrtDefault b)

/-- `floor(q + 1/2)` at `m` of the falling line through two corners: `q` is the exact rational
`p.2 - (p.2 - r.2) * (m - p.1) / (r.1 - p.1)` (R263). -/
def roundedSegment (p r : Nat × Nat) (m : Nat) : Nat :=
  (2 * p.2 * (r.1 - p.1) + (r.1 - p.1) - 2 * (p.2 - r.2) * (m - p.1)) / (2 * (r.1 - p.1))

/-- The default of `SCALE.CT`: two segments, up to the corner and from there, each rounded by `floor(q + 1/2)` (R263). -/
def scaleCtDefault (m : Nat) : BitVec scaleBits :=
  BitVec.ofNat scaleBits (if m ≤ ctCorner.1 then roundedSegment ctLow ctCorner m else roundedSegment ctCorner ctHigh m)

/-- The three values the source fixes whatever the rounding: 153 gives 15, 219 gives 7, 370 gives 0 (R263). -/
def scaleCtFixed : List (Nat × BitVec scaleBits) := [ctLow, ctCorner, ctHigh].map fun p => (p.1, BitVec.ofNat scaleBits p.2)

/-- The map of `SCALE.CT` of a build: the three fixed points, else the value the build lists for `m`, else the default. -/
def scaleCtOf (bld : Build) (m : Nat) : BitVec scaleBits :=
  match scaleCtFixed.lookup m with
  | some v => v
  | none => (bld.scaleCt.lookup m).getD (scaleCtDefault m)

end Sys2Proof.Machine
end

