-- ==== Sys2Proof/Syntax.lean ====
section
/-! DEFINITION. The instructions: one constructor per row of spec/opcode_table.json. The 24 rows of kind
"operation" are the requests of 30_encoding.md R120 with the operands of R121. The 14 rows of kind
"command_code" are the words the Command Model hands to the Frame Codec (R102), and the 3 rows of
kind "data_format" the words of the other data-path stages (R90, R93, R94). -/

namespace Sys2Proof

/-- The `target` operand of `SWMODE` and `TRYSW`; `Idle` is not a direction (R111, R277). -/
inductive Direction where
  | listening
  | transmitting
  deriving DecidableEq, Repr

/-- A DecodedPacket: "{id, separator, counter, command, crc}" (R95). -/
structure DecodedPacket where
  id : BitVec 24
  separator : Byte
  counter : Byte
  command : BitVec 16
  crc : BitVec 16
  deriving DecidableEq, Repr

/-- The instructions. An optional operand is an `Option`: R121's presence bit. -/
inductive Instr where
  /-- `INIT DEVICE_ID, START_SEQ, configuration` (R372). -/
  | init (deviceId : BitVec 24) (startSeq : Byte) (config : SessionConfig)
  /-- `SHUTDOWN` (R374). -/
  | shutdown
  /-- `ENCODE id, code, counter [, sep=]` (R142). -/
  | encodeOp (id : BitVec 24) (code : BitVec 16) (counter : Byte) (sep : Option Byte)
  /-- `DECODE raw [, msb=, lsb=]` (R150); the pair is present or absent as a whole. -/
  | decodeOp (raw : Bytes) (strip : Option (Nat × Nat))
  /-- `GOODPKT p` (R156). -/
  | goodpkt (p : DecodedPacket)
  /-- `CRC.START` (R190). -/
  | crcStart
  /-- `CRC.BYTE b` (R191). -/
  | crcByte (b : Byte)
  /-- `CRC.READ` (R192). -/
  | crcRead
  /-- `CRC.SUM W [, off=, n=]` (R193); the pair is present or absent as a whole. -/
  | crcSum (w : Bytes) (win : Option (Nat × Nat))
  /-- `PWR [ctr=]` (R230). -/
  | pwr (ctr : Option Byte)
  /-- `COOL [step=] [ctr=]` (R232). -/
  | cool (stepArg : Option Int) (ctr : Option Byte)
  /-- `WARM [step=] [ctr=]` (R233). -/
  | warm (stepArg : Option Int) (ctr : Option Byte)
  /-- `BRT [step=] [ctr=]` (R234). -/
  | brt (stepArg : Option Int) (ctr : Option Byte)
  /-- `DIM [step=] [ctr=]` (R235). -/
  | dim (stepArg : Option Int) (ctr : Option Byte)
  /-- `RST [ctr=]` (R231). -/
  | rst (ctr : Option Byte)
  /-- `SETBRT value [ctr=]` (R240). -/
  | setbrt (value : Int) (ctr : Option Byte)
  /-- `SETCT value [ctr=]` (R241). -/
  | setct (value : Int) (ctr : Option Byte)
  /-- `SEND F` (R225). -/
  | send (f : Bytes)
  /-- `SCALE.BRT b` (R262). -/
  | scaleBrt (b : Int)
  /-- `SCALE.CT m` (R263). -/
  | scaleCt (m : Int)
  /-- `SWMODE target` (R272). -/
  | swmode (target : Direction)
  /-- `TRYSW target [, fallback=]` (R280). -/
  | trysw (target : Direction) (fallback : Bool)
  /-- `RXPOLL` (R311). -/
  | rxpoll
  /-- `LISTEN` (R314). -/
  | listen
  /-- The code `0x01pp`, emitted by `PWR` (R102, R230). -/
  | codePowerToggle (p : Byte)
  /-- The codes `0x0200` to `0x020F`, emitted by `COOL` and as the second frame of `SETCT` (R102). -/
  | codeCooler (t : BitVec Machine.stepBits)
  /-- The code `0x0300`, emitted by `WARM` with clamped step 0 (R102). -/
  | codeWarmerStep0
  /-- The codes `0x03F1` to `0x03FF`, `n = 16 - t`, emitted by `WARM` when `SUB_WIDTH` = 8 (R102). -/
  | codeWarmerW8 (n : BitVec Machine.stepBits)
  /-- The codes `0x02F1` to `0x02FF`, `n = 16 - t`, emitted by `WARM` when `SUB_WIDTH` = 16 (R102). -/
  | codeWarmerW16 (n : BitVec Machine.stepBits)
  /-- The code `0x03F0`, first frame of `SETCT` when `SUB_WIDTH` = 8 (R103, R241). -/
  | codeWarmerSaturateW8
  /-- The code `0x02F0`, first frame of `SETCT` when `SUB_WIDTH` = 16 (R103, R241). -/
  | codeWarmerSaturateW16
  /-- The codes `0x0400` to `0x040F`, emitted by `BRT` and as the second frame of `SETBRT` (R102). -/
  | codeBrighter (t : BitVec Machine.stepBits)
  /-- The code `0x0500`, emitted by `DIM` with clamped step 0 (R102). -/
  | codeDimmerStep0
  /-- The codes `0x05F1` to `0x05FF`, `n = 16 - t`, emitted by `DIM` when `SUB_WIDTH` = 8 (R102). -/
  | codeDimmerW8 (n : BitVec Machine.stepBits)
  /-- The codes `0x04F1` to `0x04FF`, `n = 16 - t`, emitted by `DIM` when `SUB_WIDTH` = 16 (R102). -/
  | codeDimmerW16 (n : BitVec Machine.stepBits)
  /-- The code `0x05F0`, first frame of `SETBRT` when `SUB_WIDTH` = 8 (R103, R240). -/
  | codeDimmerSaturateW8
  /-- The code `0x04F0`, first frame of `SETBRT` when `SUB_WIDTH` = 16 (R103, R240). -/
  | codeDimmerSaturateW16
  /-- The code `0x06rr`, emitted by `RST` (R102, R231). -/
  | codeReset (r : Byte)
  /-- A frame with the constant preamble and these fields (R90). -/
  | frame (id : BitVec 24) (sep : Byte) (counter : Byte) (code : BitVec 16) (crc : BitVec 16)
  /-- A 72-bit payload with these subfields (R94). -/
  | payload (p : DecodedPacket)
  /-- A raw capture (R93). -/
  | capture (raw : Bytes)
  deriving DecidableEq, Repr

end Sys2Proof
end

