-- ==== Sys2Proof/WellFormed.lean ====
section
/-! DEFINITION. Which terms of `Instr` are instructions of the table. Most operand widths are the types'
own (R143: the operand ports "are exactly 24, 16 and 8 bits wide"); what is left is checked here. -/

namespace Sys2Proof

/-- `SEND`'s operand has `FRAME_LEN` bytes (R121, R225). A cooler or brighter code carries a clamped step; a warmer or dimmer
code carries `n = 16 - t` for a clamped step `t` from 1 up, so there `n ≠ 0`: `n = 0` is the saturate code (R102, R103). -/
def Instr.wellFormed : Instr → Bool
  | .send f => f.length == Machine.frameLen
  | .codeWarmerW8 n => Machine.subStep n
  | .codeWarmerW16 n => Machine.subStep n
  | .codeDimmerW8 n => Machine.subStep n
  | .codeDimmerW16 n => Machine.subStep n
  | .init _ _ _ => true
  | .shutdown => true
  | .encodeOp _ _ _ _ => true
  | .decodeOp _ _ => true
  | .goodpkt _ => true
  | .crcStart => true
  | .crcByte _ => true
  | .crcRead => true
  | .crcSum _ _ => true
  | .pwr _ => true
  | .cool _ _ => true
  | .warm _ _ => true
  | .brt _ _ => true
  | .dim _ _ => true
  | .rst _ => true
  | .setbrt _ _ => true
  | .setct _ _ => true
  | .scaleBrt _ => true
  | .scaleCt _ => true
  | .swmode _ => true
  | .trysw _ _ => true
  | .rxpoll => true
  | .listen => true
  | .codePowerToggle _ => true
  | .codeCooler t => Machine.addStep t
  | .codeWarmerStep0 => true
  | .codeWarmerSaturateW8 => true
  | .codeWarmerSaturateW16 => true
  | .codeBrighter t => Machine.addStep t
  | .codeDimmerStep0 => true
  | .codeDimmerSaturateW8 => true
  | .codeDimmerSaturateW16 => true
  | .codeReset _ => true
  | .frame _ _ _ _ _ => true
  | .payload _ => true
  | .capture _ => true

end Sys2Proof
end

