-- ==== Sys2Proof/Decode.lean ====
section
/-! DEFINITION. From what stands at the block's inputs to an instruction, and back. An `Item` is one unit that
the block takes in: a host request (select byte and operand ports, R120 and R121), or a word on its data path
(a command code, a frame, a payload, a capture: R102, R90, R94, R93). The decoder is total and refuses by name. -/

namespace Sys2Proof

/-- A request at the host port: the 8-bit select code and the operand ports of R121, each at its own width.
A presence bit stands beside each optional operand. A port an operation does not use is not read. -/
structure Request where
  op : Byte
  deviceId : BitVec 24
  startSeq : Byte
  config : SessionConfig
  id : BitVec 24
  code : BitVec 16
  counter : Byte
  sepValid : Bool
  sep : Byte
  raw : Bytes
  stripValid : Bool
  msb : Nat
  lsb : Nat
  packet : DecodedPacket
  b : Byte
  window : Bytes
  winValid : Bool
  off : Nat
  n : Nat
  ctrValid : Bool
  ctr : Byte
  stepValid : Bool
  stepArg : Int
  value : Int
  f : Bytes
  scaleB : Int
  scaleM : Int
  target : Bool
  fallbackEn : Bool
  deriving DecidableEq, Repr

/-- One unit at the block's inputs. -/
inductive Item where
  | request (r : Request)
  | code (w : BitVec 16)
  | frame (f : Bytes)
  | payload (p : BitVec Machine.payloadBits)
  | capture (raw : Bytes)
  deriving DecidableEq, Repr

/-- Why an item is no instruction. -/
inductive DecodeError where
  /-- A select code that R120 does not list (R122). -/
  | reservedSelect (op : Byte)
  /-- A 16-bit word that the code table of R102 does not list (R104). -/
  | unlistedCode (w : BitVec 16)
  /-- A byte sequence that is not 17 bytes with the constant preamble in front (R90). -/
  | notAFrame
  deriving DecidableEq, Repr

/-- An optional operand from its port and its presence bit: 1 = present (R121). -/
def present {α : Type} (valid : Bool) (v : α) : Option α := if valid then some v else none

/-- The `target` bit: 0 = Listening, 1 = Transmitting (R111). -/
def directionOf (b : Bool) : Direction := if b then .transmitting else .listening

/-- The `target` bit of a direction (R111). -/
def Direction.bit : Direction → Bool
  | .listening => false
  | .transmitting => true

/-- The select codes and the operands of each operation: the tables of R120 and R121. -/
def opTable : List (Byte × (Request → Instr)) :=
  [ (Machine.opInit, fun r => .init r.deviceId r.startSeq r.config),
    (Machine.opShutdown, fun _ => .shutdown),
    (Machine.opEncode, fun r => .encodeOp r.id r.code r.counter (present r.sepValid r.sep)),
    (Machine.opDecode, fun r => .decodeOp r.raw (present r.stripValid (r.msb, r.lsb))),
    (Machine.opGoodpkt, fun r => .goodpkt r.packet),
    (Machine.opCrcStart, fun _ => .crcStart),
    (Machine.opCrcByte, fun r => .crcByte r.b),
    (Machine.opCrcRead, fun _ => .crcRead),
    (Machine.opCrcSum, fun r => .crcSum r.window (present r.winValid (r.off, r.n))),
    (Machine.opPwr, fun r => .pwr (present r.ctrValid r.ctr)),
    (Machine.opCool, fun r => .cool (present r.stepValid r.stepArg) (present r.ctrValid r.ctr)),
    (Machine.opWarm, fun r => .warm (present r.stepValid r.stepArg) (present r.ctrValid r.ctr)),
    (Machine.opBrt, fun r => .brt (present r.stepValid r.stepArg) (present r.ctrValid r.ctr)),
    (Machine.opDim, fun r => .dim (present r.stepValid r.stepArg) (present r.ctrValid r.ctr)),
    (Machine.opRst, fun r => .rst (present r.ctrValid r.ctr)),
    (Machine.opSetbrt, fun r => .setbrt r.value (present r.ctrValid r.ctr)),
    (Machine.opSetct, fun r => .setct r.value (present r.ctrValid r.ctr)),
    (Machine.opSend, fun r => .send r.f),
    (Machine.opScaleBrt, fun r => .scaleBrt r.scaleB),
    (Machine.opScaleCt, fun r => .scaleCt r.scaleM),
    (Machine.opSwmode, fun r => .swmode (directionOf r.target)),
    (Machine.opTrysw, fun r => .trysw (directionOf r.target) r.fallbackEn),
    (Machine.opRxpoll, fun _ => .rxpoll),
    (Machine.opListen, fun _ => .listen) ]

/-- Read a request: every select code that the table does not list is reserved (R122). -/
def decodeRequest (r : Request) : Except DecodeError Instr :=
  match opTable.lookup r.op with
  | some f => .ok (f r)
  | none => .error (.reservedSelect r.op)

/-- One row of the command-code table: the mask of its fixed bits, their value, and the instruction of a word (R102). -/
structure CodeRow where
  mask : BitVec 16
  pattern : BitVec 16
  instr : BitVec 16 → Instr

/-- The command-code table (R102), over the functions that assemble a code: its rows are those of opcode_table.json.
The saturate rows stand first (there `n = 0` "is the saturate code"). -/
def codeTable : List CodeRow :=
  let arg (w : BitVec 16) : Byte := w.extractLsb' 0 8
  let step (w : BitVec 16) : BitVec Machine.stepBits := w.extractLsb' 0 Machine.stepBits
  let whole := Machine.codeMask 0
  let argument := Machine.codeMask 8
  let nibble := Machine.codeMask Machine.stepBits
  [ ⟨whole, Machine.subCode .w8 Machine.familyWarmer Machine.satStep, fun _ => .codeWarmerSaturateW8⟩,
    ⟨whole, Machine.subCode .w16 Machine.familyWarmer Machine.satStep, fun _ => .codeWarmerSaturateW16⟩,
    ⟨whole, Machine.subCode .w8 Machine.familyDimmer Machine.satStep, fun _ => .codeDimmerSaturateW8⟩,
    ⟨whole, Machine.subCode .w16 Machine.familyDimmer Machine.satStep, fun _ => .codeDimmerSaturateW16⟩,
    ⟨argument, Machine.addCode Machine.familyPower 0, fun w => .codePowerToggle (arg w)⟩,
    ⟨nibble, Machine.addCode Machine.familyCooler 0, fun w => .codeCooler (step w)⟩,
    ⟨whole, Machine.addCode Machine.familyWarmer 0, fun _ => .codeWarmerStep0⟩,
    ⟨nibble, Machine.subCode .w8 Machine.familyWarmer (Machine.borrowed 0), fun w => .codeWarmerW8 (step w)⟩,
    ⟨nibble, Machine.subCode .w16 Machine.familyWarmer (Machine.borrowed 0), fun w => .codeWarmerW16 (step w)⟩,
    ⟨nibble, Machine.addCode Machine.familyBrighter 0, fun w => .codeBrighter (step w)⟩,
    ⟨whole, Machine.addCode Machine.familyDimmer 0, fun _ => .codeDimmerStep0⟩,
    ⟨nibble, Machine.subCode .w8 Machine.familyDimmer (Machine.borrowed 0), fun w => .codeDimmerW8 (step w)⟩,
    ⟨nibble, Machine.subCode .w16 Machine.familyDimmer (Machine.borrowed 0), fun w => .codeDimmerW16 (step w)⟩,
    ⟨argument, Machine.addCode Machine.familyReset 0, fun w => .codeReset (arg w)⟩ ]

/-- A word is of a row when it has the row's fixed bits and its field is one the row lists (R102). -/
def CodeRow.takes (row : CodeRow) (w : BitVec 16) : Bool :=
  w &&& row.mask == row.pattern && (row.instr w).wellFormed

/-- Read a command code by the first row of the table that takes it. -/
def decodeCode (w : BitVec 16) : Except DecodeError Instr :=
  match codeTable.find? (fun row => row.takes w) with
  | some row => .ok (row.instr w)
  | none => .error (.unlistedCode w)

/-- Read a frame: `FRAME_LEN` bytes, the constant preamble in front, then the fields of R90 at their offsets. -/
def decodeFrame (f : Bytes) : Except DecodeError Instr :=
  if f.length = Machine.frameLen ∧ f.take Machine.preambleLen = Machine.preambleBytes then
    .ok (.frame (Machine.field 24 f Machine.preambleLen Machine.idLen) (Machine.field 8 f Machine.sepAt Machine.sepLen)
      (Machine.field 8 f Machine.counterAt Machine.counterLen) (Machine.field 16 f Machine.codeAt Machine.codeLen)
      (Machine.field 16 f Machine.windowLen Machine.crcLen))
  else .error .notAFrame

/-- Cut a payload at the fixed bit positions of R94 and R153. -/
def unpackPayload (p : BitVec Machine.payloadBits) : DecodedPacket where
  id := p.extractLsb' 48 24
  separator := p.extractLsb' 40 8
  counter := p.extractLsb' 32 8
  command := p.extractLsb' 16 16
  crc := p.extractLsb' 0 16

/-- The payload of a packet: its subfields from the most significant end down (R94). -/
def packPayload (p : DecodedPacket) : BitVec Machine.payloadBits :=
  (p.id ++ p.separator ++ p.counter ++ p.command ++ p.crc : BitVec (24 + 8 + 8 + 16 + 16))

/-- The instruction of an item, or the reason there is none. -/
def decode : Item → Except DecodeError Instr
  | .request r => decodeRequest r
  | .code w => decodeCode w
  | .frame f => decodeFrame f
  | .payload p => .ok (.payload (unpackPayload p))
  | .capture raw => .ok (.capture raw)

/-! The encoder. -/

/-- A configuration whose registers are all zero. -/
def SessionConfig.zero : SessionConfig where
  sep := 0
  capLen := 0
  stripMsb := 0
  stripLsb := 0
  pwrArg := 0
  rstArg := 0
  repeatCount := 0
  delayMs := 0
  maxRetries := 0
  backoffMs := 0
  pollMs := 0
  channel := 0
  power := .low
  dataRate := .mbps2
  crcMode := .disabled
  pipeTx := 0
  pipeRx := 0

/-- A packet whose fields are all zero. -/
def DecodedPacket.zero : DecodedPacket := ⟨0, 0, 0, 0, 0⟩

/-- The request with select code `op` and every operand port at zero. -/
def Request.zero (op : Byte) : Request where
  op := op
  deviceId := 0
  startSeq := 0
  config := .zero
  id := 0
  code := 0
  counter := 0
  sepValid := false
  sep := 0
  raw := []
  stripValid := false
  msb := 0
  lsb := 0
  packet := .zero
  b := 0
  window := []
  winValid := false
  off := 0
  n := 0
  ctrValid := false
  ctr := 0
  stepValid := false
  stepArg := 0
  value := 0
  f := List.replicate Machine.frameLen 0
  scaleB := 0
  scaleM := 0
  target := false
  fallbackEn := false

/-- Put an optional counter on the counter port. -/
def Request.withCtr (r : Request) (ctr : Option Byte) : Request :=
  { r with ctrValid := ctr.isSome, ctr := ctr.getD 0 }

/-- Put an optional step on the step port. -/
def Request.withStep (r : Request) (stepArg : Option Int) : Request :=
  { r with stepValid := stepArg.isSome, stepArg := stepArg.getD 0 }

/-- The item that stands for an instruction: for an operation the select code of R120 with its operands on
their ports, for a data row its word (R102, R90, R94, R93). -/
def encode : Instr → Item
  | .init d q c => .request { Request.zero Machine.opInit with deviceId := d, startSeq := q, config := c }
  | .shutdown => .request (Request.zero Machine.opShutdown)
  | .encodeOp i k c sep =>
    .request { Request.zero Machine.opEncode with id := i, code := k, counter := c, sepValid := sep.isSome, sep := sep.getD 0 }
  | .decodeOp raw strip =>
    .request { Request.zero Machine.opDecode with
      raw := raw, stripValid := strip.isSome, msb := (strip.getD (0, 0)).1, lsb := (strip.getD (0, 0)).2 }
  | .goodpkt p => .request { Request.zero Machine.opGoodpkt with packet := p }
  | .crcStart => .request (Request.zero Machine.opCrcStart)
  | .crcByte b => .request { Request.zero Machine.opCrcByte with b := b }
  | .crcRead => .request (Request.zero Machine.opCrcRead)
  | .crcSum w win =>
    .request { Request.zero Machine.opCrcSum with
      window := w, winValid := win.isSome, off := (win.getD (0, 0)).1, n := (win.getD (0, 0)).2 }
  | .pwr ctr => .request ((Request.zero Machine.opPwr).withCtr ctr)
  | .cool t ctr => .request (((Request.zero Machine.opCool).withStep t).withCtr ctr)
  | .warm t ctr => .request (((Request.zero Machine.opWarm).withStep t).withCtr ctr)
  | .brt t ctr => .request (((Request.zero Machine.opBrt).withStep t).withCtr ctr)
  | .dim t ctr => .request (((Request.zero Machine.opDim).withStep t).withCtr ctr)
  | .rst ctr => .request ((Request.zero Machine.opRst).withCtr ctr)
  | .setbrt v ctr => .request { (Request.zero Machine.opSetbrt).withCtr ctr with value := v }
  | .setct v ctr => .request { (Request.zero Machine.opSetct).withCtr ctr with value := v }
  | .send f => .request { Request.zero Machine.opSend with f := f }
  | .scaleBrt b => .request { Request.zero Machine.opScaleBrt with scaleB := b }
  | .scaleCt m => .request { Request.zero Machine.opScaleCt with scaleM := m }
  | .swmode d => .request { Request.zero Machine.opSwmode with target := d.bit }
  | .trysw d fb => .request { Request.zero Machine.opTrysw with target := d.bit, fallbackEn := fb }
  | .rxpoll => .request (Request.zero Machine.opRxpoll)
  | .listen => .request (Request.zero Machine.opListen)
  | .codePowerToggle p => .code (Machine.addCode Machine.familyPower p.toNat)
  | .codeCooler t => .code (Machine.addCode Machine.familyCooler t.toNat)
  | .codeWarmerStep0 => .code (Machine.addCode Machine.familyWarmer 0)
  | .codeWarmerW8 n => .code (Machine.subCode .w8 Machine.familyWarmer (Machine.borrowed n.toNat))
  | .codeWarmerW16 n => .code (Machine.subCode .w16 Machine.familyWarmer (Machine.borrowed n.toNat))
  | .codeWarmerSaturateW8 => .code (Machine.subCode .w8 Machine.familyWarmer Machine.satStep)
  | .codeWarmerSaturateW16 => .code (Machine.subCode .w16 Machine.familyWarmer Machine.satStep)
  | .codeBrighter t => .code (Machine.addCode Machine.familyBrighter t.toNat)
  | .codeDimmerStep0 => .code (Machine.addCode Machine.familyDimmer 0)
  | .codeDimmerW8 n => .code (Machine.subCode .w8 Machine.familyDimmer (Machine.borrowed n.toNat))
  | .codeDimmerW16 n => .code (Machine.subCode .w16 Machine.familyDimmer (Machine.borrowed n.toNat))
  | .codeDimmerSaturateW8 => .code (Machine.subCode .w8 Machine.familyDimmer Machine.satStep)
  | .codeDimmerSaturateW16 => .code (Machine.subCode .w16 Machine.familyDimmer Machine.satStep)
  | .codeReset r => .code (Machine.addCode Machine.familyReset r.toNat)
  | .frame i s c k q => .frame (Machine.frameBytes i s c k q)
  | .payload p => .payload (packPayload p)
  | .capture raw => .capture raw

/-- The item a word of the opcode table stands for, by its length in bits: 8 a select byte with its operand ports
at zero, 16 a command code, 72 a payload, 136 a frame; any other length is a capture of that many bytes. -/
def tableItem (nbits w : Nat) : Item :=
  if nbits = 8 then .request (Request.zero (BitVec.ofNat 8 w))
  else if nbits = 16 then .code (BitVec.ofNat 16 w)
  else if nbits = Machine.payloadBits then .payload (BitVec.ofNat Machine.payloadBits w)
  else if nbits = 8 * Machine.frameLen then .frame (Machine.be Machine.frameLen w)
  else .capture (Machine.be (nbits / 8) w)

/-- The instruction the decoder reads from a word of the opcode table. -/
def decodeTableWord (nbits w : Nat) : Option Instr :=
  match decode (tableItem nbits w) with
  | .ok i => some i
  | .error _ => none

end Sys2Proof
end

