-- ==== Sys2Proof/Machine/Defaults.lean ====
section
/-! DEFINITION. The defaults of the session configuration and of the build: 00_scope.md R7, 10_state.md R41. -/

namespace Sys2Proof.Machine

/-- Every configuration register at the default R41 gives it; the three that have none are arguments. -/
def configDefaults (sep : Byte) (pipeTx pipeRx : Pipe) : SessionConfig where
  sep := sep
  capLen := 12
  stripMsb := 15
  stripLsb := 9
  pwrArg := 0x00
  rstArg := 0x00
  repeatCount := 20
  delayMs := 10
  maxRetries := 3
  backoffMs := 100
  pollMs := 100
  channel := 6
  power := .low
  dataRate := .mbps2
  crcMode := .disabled
  pipeTx := pipeTx
  pipeRx := pipeRx

/-- The build with the spec's default of each OPEN build parameter: `SUB_WIDTH` = 8 and the two default
scale maps (R7). -/
def buildDefaults : Build where
  subWidth := .w8
  scaleBrt := []
  scaleCt := []

end Sys2Proof.Machine
end

