-- ==== Sys2Proof/Machine/State.lean ====
section
/-! DEFINITION. The state of the block and of what stands at its boundary, as plain data, and the reset
state (10_state.md). Registers first, then the transient sequencing state, then the boundary: the
transceiver as the driver calls leave it, the build parameters, the environment's script, the
requests the host will present, and the record of events. -/

namespace Sys2Proof.Machine

/-- `radio_state` (R25). The encoding `0b11` is never written and is left out of the type (R110). -/
inductive RadioState where
  | idle
  | listening
  | transmitting
  deriving DecidableEq, Repr

/-- The status of a response (R30, R112). -/
inductive Status where
  | ok
  | hardwareUnavailable
  | receiverBusy
  | frameDecodeError
  | refused
  deriving DecidableEq, Repr

/-- The detail recorded with `FrameDecodeError` (R151, R331). -/
inductive DecodeDetail where
  | tooShort
  | unpackMismatch
  deriving DecidableEq, Repr

/-- The results of a response (R121). -/
inductive Result where
  /-- No result. -/
  | none
  /-- `ENCODE`: the 17 bytes. -/
  | frame (f : Bytes)
  /-- `DECODE`: the packet. -/
  | packet (p : DecodedPacket)
  /-- `DECODE` with status `FrameDecodeError`: the detail. -/
  | decodeError (d : DecodeDetail)
  /-- `GOODPKT`: the result bit `good`. -/
  | good (b : Bool)
  /-- `CRC.READ`, `CRC.SUM`: the checksum. -/
  | crc (c : BitVec crcWidth)
  /-- `SEND` and the command operations: `write_fails`. -/
  | writeFails (n : Nat)
  /-- `SCALE.BRT`, `SCALE.CT`: `v`, 0 to 15. -/
  | scaled (v : BitVec scaleBits)
  /-- `TRYSW`: `switched`, `attempts`, `fallback_taken`. -/
  | trySwitch (switched : Bool) (attempts : Nat) (fallbackTaken : Bool)
  /-- `RXPOLL` with `available` = 0. -/
  | nothingAvailable
  /-- `RXPOLL` with `available` = 1 and status `FrameDecodeError`: the detail. -/
  | captureError (d : DecodeDetail)
  /-- `RXPOLL` with `available` = 1 and status `Ok`: the packet and `good`. -/
  | received (p : DecodedPacket) (good : Bool)
  deriving DecidableEq, Repr

/-- A response: status, the flag `aborted` (R375: 1 only when `shutdown_req` cut the operation short) and results. -/
structure Response where
  status : Status
  aborted : Bool
  result : Result
  deriving DecidableEq, Repr

/-- What the block does at its boundary, one event each, in order (R75, R350, R351, R400). -/
inductive Event where
  /-- `drv.isConnected()`. -/
  | isConnected
  /-- `drv.configure(channel, powerLevel, dataRate, payloadSize, crcMode)`. -/
  | configure (channel : BitVec 8) (power : PowerLevel) (rate : DataRate) (payloadSize : Nat) (crcMode : CrcMode)
  /-- `drv.open(direction, pipeOrAddress)`. -/
  | openRadio (direction : Direction) (pipe : Pipe)
  /-- `drv.writeBlocking(bytes)`. -/
  | writeBlocking (f : Bytes)
  /-- `drv.pollAvailable()`. -/
  | pollAvailable
  /-- `drv.release()`. -/
  | release
  /-- `wait(ms)`: a delay; its argument "is the only thing known about it" (R400). -/
  | wait (ms : Nat)
  /-- The fallback event of `TRYSW` (R283). -/
  | fallback
  /-- A report of `LISTEN` (R314). -/
  | report (r : Response)
  /-- The response of an operation (R121). -/
  | response (r : Response)
  deriving DecidableEq, Repr

/-- Where a loop of a multi-step operation stands: at its act (a write, an attempt, a poll), at the `wait` after it,
or at the sampling of `shutdown_req` after that (R225, R280, R314). -/
inductive LoopPhase where
  | act
  | wait
  | sample
  deriving DecidableEq, Repr

/-- The transient state of a command operation (R28): the counter value `c` chosen for it, whether it was taken from
`seq_ctr`, `frame_ix` (1 or 2), and the code of the frame still to be built, if there is one. -/
structure Command where
  counter : Byte
  implicit : Bool
  frameIx : Nat
  nextCode : Option (BitVec 16)
  deriving DecidableEq, Repr

/-- The running multi-step operation and its transient indices (R28). -/
inductive Running where
  /-- A command operation whose code or frame is on the data path; `fails` counts the failed writes so far. -/
  | emit (cmd : Command) (fails : Nat)
  /-- The repetition loop of `SEND F`: `rep` from 1 to `CFG_REPEAT`, the failed writes so far, and the command
  operation it belongs to, if any. -/
  | send (f : Bytes) (rep : Nat) (fails : Nat) (phase : LoopPhase) (cmd : Option Command)
  /-- The attempt loop of `TRYSW`: `attempt` from 1 to `CFG_MAX_RETRIES`. -/
  | trysw (target : Direction) (fallback : Bool) (attempt : Nat) (phase : LoopPhase)
  /-- The poll loop of `LISTEN`. -/
  | listen (phase : LoopPhase)
  deriving DecidableEq, Repr

/-- The payload of the last `drv.configure` call. -/
structure DriverConfig where
  channel : BitVec 8
  power : PowerLevel
  rate : DataRate
  payloadSize : Nat
  crcMode : CrcMode
  deriving DecidableEq, Repr

/-- The transceiver as the block's driver calls leave it (R50, R270): what it was last configured with and opened
for; both are absent when it is released and disabled. -/
structure Transceiver where
  config : Option DriverConfig
  opened : Option (Direction × Pipe)
  deriving DecidableEq, Repr

/-- The environment's answers still to come, one script for each input of R45. When a script is used up the answer is
the free value of Config.lean at `draws`, which then advances. -/
structure Env where
  connected : List Bool
  txInflight : List Bool
  writeOk : List Bool
  polls : List (Option (Bytes × Nat))
  shutdown : List Bool
  draws : Nat
  deriving DecidableEq, Repr

/-- The state. -/
structure State where
  /-- `crc_reg`, 16 bits (R22). -/
  crcReg : BitVec crcWidth
  /-- `seq_ctr`, 8 bits (R23). -/
  seqCtr : Byte
  /-- `dev_id`, 24 bits (R24). -/
  devId : BitVec 24
  /-- `radio_state` (R25). -/
  radioState : RadioState
  /-- `hw_fault`, 1 bit (R26). -/
  hwFault : Bool
  /-- `inited`, 1 bit (R27). -/
  inited : Bool
  /-- The session configuration registers (R41). -/
  cfg : SessionConfig
  /-- The running multi-step operation, absent between operations (R28). -/
  running : Option Running
  /-- The word on the data path, absent when no stage has handed one on (the model's own; R220, R310). -/
  path : Option Item
  /-- The transceiver, outside the block (R50). -/
  transceiver : Transceiver
  /-- The build parameters; nothing writes them (R7). -/
  build : Build
  /-- The environment's answers (R45). -/
  env : Env
  /-- The requests the host will present, one after the other's response (R80, R360); not a queue of the block. -/
  host : List Request
  /-- The events so far, newest first (R75). -/
  trace : List Event
  deriving DecidableEq, Repr

/-- Why the machine stops with a fault. -/
inductive Fault where
  /-- The word on the data path does not belong to the operation that is running, or an operation waits for a word
  that is not there. Raised by `step`, by the sequencer and by the meanings of the data rows; no state that a run reaches
  is of that kind. Safe: the machine stops where the spec describes no state at all. -/
  | brokenPath
  deriving DecidableEq, Repr

/-- Why the machine gives an instruction no meaning. -/
inductive Refusal where
  /-- The instruction has no meaning yet; raised by `exec` alone. Safe: nothing is claimed of it. -/
  | notModelled (mnemonic : String)
  deriving DecidableEq, Repr

/-- The value of `crc_reg` after reset (R50: `0xFFFE`, which "equals `CRC_INIT`"). -/
def resetCrc : BitVec crcWidth := crcInit

/-- The value the model gives `seq_ctr` after reset. DESIGN CHOICE (assumption 1): R50 leaves it unspecified. -/
def resetSeq : Byte := 0

/-- The value the model gives `dev_id` after reset. DESIGN CHOICE (assumption 1): R50 leaves it unspecified. -/
def resetDev : BitVec 24 := 0

/-- The values the model gives the configuration registers after reset: R41's defaults, zero where it has none.
DESIGN CHOICE (assumption 1): R50 leaves them unspecified. -/
def resetCfg : SessionConfig := configDefaults 0 0 0

/-- The transceiver "released and disabled" (R50, R371). -/
def Transceiver.released : Transceiver := ⟨none, none⟩

/-- The block right after power-on (R370 (a), R371): its registers at R50's values, no operation running, the
transceiver released; no request presented and nothing recorded yet; the build at the spec's defaults. -/
def State.reset : State where
  crcReg := resetCrc
  seqCtr := resetSeq
  devId := resetDev
  radioState := .idle
  hwFault := false
  inited := false
  cfg := resetCfg
  running := none
  path := none
  transceiver := .released
  build := buildDefaults
  env := ⟨[], [], [], [], [], 0⟩
  host := []
  trace := []

end Sys2Proof.Machine
end

