-- ==== Sys2Proof/Machine/Ops.lean ====
section
/-! DEFINITION. The named operations over the state: register writes, the environment's inputs, the driver
calls, responses, the way an error ends an operation, and reset. -/

namespace Sys2Proof.Machine

/-! Register writes, one each. -/

/-- `crc_reg <- v`. -/
def State.putCrc (s : State) (v : BitVec crcWidth) : State := { s with crcReg := v }
/-- `seq_ctr <- v`. -/
def State.putSeq (s : State) (v : Byte) : State := { s with seqCtr := v }
/-- `radio_state <- r`. -/
def State.putRadio (s : State) (r : RadioState) : State := { s with radioState := r }
/-- `hw_fault <- 1`. -/
def State.putFault (s : State) : State := { s with hwFault := true }
/-- The loads of a successful `INIT` (R372): `dev_id`, `seq_ctr`, the configuration, `inited <- 1`. -/
def State.openSession (s : State) (id : BitVec 24) (seq : Byte) (c : SessionConfig) : State :=
  { s with devId := id, seqCtr := seq, cfg := c, inited := true }
/-- Replace the running operation (R28). -/
def State.putRunning (s : State) (r : Option Running) : State := { s with running := r }
/-- Replace the word on the data path. -/
def State.putPath (s : State) (p : Option Item) : State := { s with path := p }
/-- Replace the environment's script. -/
def State.putEnv (s : State) (e : Env) : State := { s with env := e }
/-- Replace the requests the host will present. -/
def State.putHost (s : State) (h : List Request) : State := { s with host := h }
/-- Record one event (R75). -/
def State.log (s : State) (e : Event) : State := { s with trace := e :: s.trace }
/-- What the driver calls leave the transceiver as. -/
def State.putTransceiver (s : State) (t : Transceiver) : State := { s with transceiver := t }

/-! The environment's inputs (R45). Each draw takes the next answer of its script, or the free value. -/

/-- `drv.isConnected()`'s answer. -/
def Env.drawConnected (e : Env) : Bool × Env :=
  match e.connected with
  | a :: rest => (a, { e with connected := rest })
  | [] => (Config.connected e.draws, { e with draws := e.draws + 1 })

/-- `sample(tx_inflight)` (R46). -/
def Env.drawInflight (e : Env) : Bool × Env :=
  match e.txInflight with
  | a :: rest => (a, { e with txInflight := rest })
  | [] => (Config.txInflight e.draws, { e with draws := e.draws + 1 })

/-- `drv.writeBlocking`'s answer. -/
def Env.drawWrite (e : Env) : Bool × Env :=
  match e.writeOk with
  | a :: rest => (a, { e with writeOk := rest })
  | [] => (Config.writeOk e.draws, { e with draws := e.draws + 1 })

/-- `drv.pollAvailable()`'s answer. -/
def Env.drawPoll (e : Env) : Option (Bytes × Nat) × Env :=
  match e.polls with
  | a :: rest => (a, { e with polls := rest })
  | [] => (Config.pollAnswer e.draws, { e with draws := e.draws + 1 })

/-- `sample(shutdown_req)` (R375). -/
def Env.drawShutdown (e : Env) : Bool × Env :=
  match e.shutdown with
  | a :: rest => (a, { e with shutdown := rest })
  | [] => (Config.shutdownReq e.draws, { e with draws := e.draws + 1 })

/-- `sample(tx_inflight)` in a state: the sample and the state after it. -/
def sampleInflight (s : State) : Bool × State := (s.env.drawInflight.1, s.putEnv s.env.drawInflight.2)

/-- `sample(shutdown_req)` in a state. -/
def sampleShutdown (s : State) : Bool × State := (s.env.drawShutdown.1, s.putEnv s.env.drawShutdown.2)

/-! The driver calls (R350, R351). -/

/-- `drv.isConnected()`: the call is an event, the answer an input. -/
def drvIsConnected (s : State) : Bool × State :=
  (s.env.drawConnected.1, (s.putEnv s.env.drawConnected.2).log .isConnected)

/-- `drv.writeBlocking(F)`. -/
def drvWrite (f : Bytes) (s : State) : Bool × State :=
  (s.env.drawWrite.1, (s.putEnv s.env.drawWrite.2).log (.writeBlocking f))

/-- `drv.pollAvailable()`. -/
def drvPoll (s : State) : Option (Bytes × Nat) × State :=
  (s.env.drawPoll.1, (s.putEnv s.env.drawPoll.2).log .pollAvailable)

/-- The payload size of a direction: `TX_PAYLOAD` for `Transmitting`, `CFG_CAP_LEN` for `Listening` (R272, R351). -/
def payloadSize (d : Direction) (c : SessionConfig) : Nat :=
  match d with
  | .transmitting => txPayload
  | .listening => c.capLen.toNat

/-- The pipe of a direction: `CFG_PIPE_TX` or `CFG_PIPE_RX` (R272). -/
def pipeOf (d : Direction) (c : SessionConfig) : Pipe :=
  match d with
  | .transmitting => c.pipeTx
  | .listening => c.pipeRx

/-- `drv.configure(CFG_CHANNEL, CFG_POWER, CFG_DATARATE, payload size of the direction, CFG_CRCMODE)`. -/
def drvConfigure (d : Direction) (s : State) : State :=
  (s.putTransceiver { s.transceiver with
      config := some ⟨s.cfg.channel, s.cfg.power, s.cfg.dataRate, payloadSize d s.cfg, s.cfg.crcMode⟩ }).log
    (.configure s.cfg.channel s.cfg.power s.cfg.dataRate (payloadSize d s.cfg) s.cfg.crcMode)

/-- `drv.open(direction, pipe of the direction)`. -/
def drvOpen (d : Direction) (s : State) : State :=
  (s.putTransceiver { s.transceiver with opened := some (d, pipeOf d s.cfg) }).log (.openRadio d (pipeOf d s.cfg))

/-- `drv.release()`: "release and disable the transceiver" (R374). -/
def drvRelease (s : State) : State := (s.putTransceiver .released).log .release

/-- `wait(ms)` (R400): an event and nothing else. -/
def waitMs (ms : Nat) (s : State) : State := s.log (.wait ms)

/-! Responses and errors. -/

/-- A response with `aborted` = 0. -/
def reply (st : Status) (r : Result) : Response := ⟨st, false, r⟩

/-- Hand a response back to the host (R121). -/
def State.respond (s : State) (r : Response) : State := s.log (.response r)

/-- The end of a multi-step operation: no transient index is alive any more, and the response is handed back. -/
def State.finish (s : State) (r : Response) : State := (s.putRunning none).respond r

/-- TAKING AN ERROR (R339): `raise <Kind>(info)` ends the operation at once, the response carries the kind and the
detail, and the block is ready for the next request. "No state is saved anywhere, no mode changes, no stack or
vector is used"; there is nothing to return from (R340). -/
def raiseError (kind : Status) (info : Result) (s : State) : State := s.respond (reply kind info)

/-- The status `Refused` (R337): "no register is written, no driver call is made, no wait happens". -/
def refuse (s : State) : State := s.respond (reply .refused .none)

/-! Reset (R370, R371). -/

/-- Every register of the block at its reset value and no transient index alive. The boundary (the build, the
environment, the host and the record of events) is not state of the block and stays. -/
def State.resetBlock (s : State) : State :=
  { s with
    crcReg := resetCrc
    seqCtr := resetSeq
    devId := resetDev
    radioState := .idle
    hwFault := false
    inited := false
    cfg := resetCfg
    running := none
    path := none }

/-- What `SHUTDOWN` does (R374): `drv.release()`, then the reset state. -/
def shutDown (s : State) : State := (drvRelease s).resetBlock

/-- A `shutdown_req` taken at a sampling point (R375): the operation is abandoned, the block does what `SHUTDOWN` does,
and the response is status `Ok` with `aborted` = 1 and no other result. -/
def abort (s : State) : State := (shutDown s).respond ⟨.ok, true, .none⟩

end Sys2Proof.Machine
end

