-- ==== Sys2Proof/Machine/Flags.lean ====
section
/-! DEFINITION. The block has no condition codes (R30). What stands here is every bit that a rule computes from the
state or from operands, and the numbers of the enumerations. -/

namespace Sys2Proof.Machine

/-- The readiness test that opens every operation on session state: neither `inited = 0` nor `hw_fault = 1`
(R337 (b) and (c)). -/
def ready (s : State) : Bool := s.inited && !s.hwFault

/-- The readiness test of `INIT`: neither `inited = 1` nor `hw_fault = 1` (R337 (d)). -/
def initAllowed (s : State) : Bool := !s.inited && !s.hwFault

/-- The busy condition, the conjunction of three things (R273). -/
def receiverBusy (target : Direction) (radio : RadioState) (inflight : Bool) : Bool :=
  target == .transmitting && radio == .listening && inflight

/-- The result bit `good` (R156); 0 is the source's `CrcMismatch` (R335). -/
def goodBit (recomputed crc : BitVec crcWidth) : Bool := recomputed == crc

/-- `write_fails` after one more driver write (R225, R226). -/
def countFail (ok : Bool) (fails : Nat) : Nat := if ok then fails else fails + 1

/-- `radio_state` of a direction. -/
def radioOf : Direction → RadioState
  | .listening => .listening
  | .transmitting => .transmitting

/-- The two stored bits of `radio_state` (R110). -/
def RadioState.bits : RadioState → BitVec 2
  | .idle => 0b00
  | .listening => 0b01
  | .transmitting => 0b10

/-- The four-bit code of a status (R112). -/
def Status.bits : Status → BitVec 4
  | .ok => 0
  | .hardwareUnavailable => 1
  | .receiverBusy => 2
  | .frameDecodeError => 3
  | .refused => 15

/-- The number of a `FrameDecodeError` detail (92_eei_decisions.md D18). -/
def DecodeDetail.bit : DecodeDetail → Bool
  | .tooShort => false
  | .unpackMismatch => true

end Sys2Proof.Machine
end

