-- ==== Sys2Proof/Machine/Operands.lean ====
section
/-! DEFINITION. The operand forms: an optional operand that is absent has the meaning its rule gives it. -/

namespace Sys2Proof.Machine

/-- `clamp(lo, hi, s)` (00_scope.md section 5). -/
def clamp (lo hi s : Int) : Int := if s < lo then lo else if s > hi then hi else s

/-- The clamped step `t = clamp(STEP_MIN, STEP_MAX, s)` (R101, R221). -/
def clampStep (s : Int) : Nat := (clamp stepMin stepMax s).toNat

/-- `step?`: "A step left out of the request is 1" (R221). -/
def stepOperand (stepArg : Option Int) : Int := stepArg.getD stepDefault

/-- `ctr?`: the counter of the first frame, `ctr` when the request carries one, `seq_ctr` otherwise (R223). -/
def counterOperand (ctr : Option Byte) (s : State) : Byte := ctr.getD s.seqCtr

/-- `sep?` of `ENCODE`: `CFG_SEP` when absent, and then only in a session (R142, R51). -/
def sepOperand (sep : Option Byte) (s : State) : Option Byte :=
  match sep with
  | some b => some b
  | none => if ready s then some s.cfg.sep else none

/-- The strip constants of the session. -/
def configStrip (c : SessionConfig) : Nat × Nat := (c.stripMsb.toNat, c.stripLsb.toNat)

/-- `msb?, lsb?` of `DECODE`: the session's when absent, and then only in a session (R150, R51). -/
def stripOperand (strip : Option (Nat × Nat)) (s : State) : Option (Nat × Nat) :=
  match strip with
  | some p => some p
  | none => if ready s then some (configStrip s.cfg) else none

/-- `off?, n?` of `CRC.SUM`: the whole buffer when absent; no window when it runs past the end (R193, R194). -/
def windowOperand (w : Bytes) (win : Option (Nat × Nat)) : Option Bytes :=
  match win with
  | none => some w
  | some (off, n) => if off + n ≤ w.length then some (slice w off n) else none

end Sys2Proof.Machine
end

