-- ==== Sys2Proof/Machine/Arbiter.lean ====
section
/-! DEFINITION. The Radio Mode Arbiter (44_radio_mode_arbiter.md): `SWMODE` and `TRYSW`. -/

namespace Sys2Proof.Machine

/-- A successful switch (R272, R274): `drv.configure`, `drv.open`, `radio_state <- target`. -/
def switchTo (target : Direction) (s : State) : State := (drvOpen target (drvConfigure target s)).putRadio (radioOf target)

/-- One `SWMODE` (R272): sample `tx_inflight`; on the busy condition nothing else happens. The answer says whether the
switch was made. -/
def attemptSwitch (target : Direction) (s : State) : Bool × State :=
  if receiverBusy target s.radioState (sampleInflight s).1 then (false, (sampleInflight s).2)
  else (true, switchTo target (sampleInflight s).2)

/-- The response of an accepted `SWMODE`. -/
def switchReply (r : Bool × State) : State :=
  if r.1 then r.2.respond (reply .ok .none) else raiseError .receiverBusy .none r.2

/-- `SWMODE target` (R272). -/
def execSwmode (target : Direction) (s : State) : Host.Outcome State Fault Refusal :=
  .next (if ready s then switchReply (attemptSwitch target s) else refuse s)

/-- Exhaustion of `TRYSW` after `n` attempts (R283): the fallback event and status `Ok`, or status `ReceiverBusy`. -/
def exhausted (fallback : Bool) (n : Nat) (s : State) : State :=
  if fallback then (s.log .fallback).finish (reply .ok (.trySwitch false n true))
  else raiseError .receiverBusy (.trySwitch false n false) (s.putRunning none)

/-- The end of one attempt (R280): success ends the operation; a busy attempt is followed by the backoff or, when it was
the last one, by exhaustion. -/
def attemptDone (target : Direction) (fallback : Bool) (attempt : Nat) (r : Bool × State) : State :=
  if r.1 then r.2.finish (reply .ok (.trySwitch true attempt false))
  else if attempt < r.2.cfg.maxRetries.toNat then r.2.putRunning (some (.trysw target fallback attempt .wait))
  else exhausted fallback attempt r.2

/-- One step of the attempt loop (R280): the attempt, the backoff after it, or the sampling of `shutdown_req` after that. -/
def tryStep (target : Direction) (fallback : Bool) (attempt : Nat) (phase : LoopPhase) (s : State) : State :=
  match phase with
  | .act => attemptDone target fallback attempt (attemptSwitch target s)
  | .wait => (waitMs s.cfg.backoffMs.toNat s).putRunning (some (.trysw target fallback attempt .sample))
  | .sample =>
    if (sampleShutdown s).1 then abort (sampleShutdown s).2
    else (sampleShutdown s).2.putRunning (some (.trysw target fallback (attempt + 1) .act))

/-- `TRYSW target [, fallback=]` (R280): the attempt loop at its head; with `CFG_MAX_RETRIES` = 0 it makes no attempt (R285). -/
def execTrysw (target : Direction) (fallback : Bool) (s : State) : Host.Outcome State Fault Refusal :=
  .next (if ready s then
      if s.cfg.maxRetries = 0 then exhausted fallback 0 s
      else s.putRunning (some (.trysw target fallback 1 .act))
    else refuse s)

end Sys2Proof.Machine
end

