-- ==== Sys2Proof/Machine/Crc.lean ====
section
/-! DEFINITION. The CRC function (42_crc_engine.md section 2) over the parameters of R7, in the direct form: a message bit
is combined with the bit that leaves the register. -/

namespace Sys2Proof.Machine

/-- `crc_bit(r, b)`: take in one message bit (R182). -/
def crcBit (r : BitVec crcWidth) (b : Bool) : BitVec crcWidth :=
  if r.getMsbD 0 ^^ b then (r <<< 1) ^^^ crcPoly else r <<< 1

/-- The bits of a byte in the order they enter: most significant first without input reflection (R183). -/
def crcBitOrder : List Nat :=
  if crcRefIn then [0, 1, 2, 3, 4, 5, 6, 7] else [7, 6, 5, 4, 3, 2, 1, 0]

/-- `crc_byte(r, x)`: the bits of a byte enter from bit 7 down to bit 0 (R183). -/
def crcByte (r : BitVec crcWidth) (x : Byte) : BitVec crcWidth :=
  crcBitOrder.foldl (fun r i => crcBit r (x.getLsbD i)) r

/-- `crc_from(r0, W)`: the bytes of a window in index order (R184). -/
def crcFrom (r0 : BitVec crcWidth) (w : Bytes) : BitVec crcWidth := w.foldl crcByte r0

/-- The result of a checksum from the register: "no reflection of the result, no final XOR" (R184). -/
def crcOut (r : BitVec crcWidth) : BitVec crcWidth := (if crcRefOut then r.reverse else r) ^^^ crcXorOut

/-- `checksum(W)`: the register starts at `CRC_INIT` and takes in the window (R184). -/
def checksum (w : Bytes) : BitVec crcWidth := crcOut (crcFrom crcInit w)

end Sys2Proof.Machine
end

