-- ==== Sys2Proof/Machine/Codec.lean ====
section
/-! DEFINITION. The Frame Codec's functions (41_frame_codec.md): the CRC window, the frame, the strip of a capture, and
the validation of a packet. -/

namespace Sys2Proof.Machine

/-- The frame of a window: the window, then its checksum, big-endian (R142, R65). -/
def frameOf (id : BitVec 24) (sep counter : Byte) (code : BitVec 16) : Bytes :=
  frameBytes id sep counter code (checksum (window id sep counter code))

/-- The strip of a capture (R150, R151): the length check, then `P = (V >> l) mod 2^PAYLOAD_BITS`. -/
def stripCapture (m l : Nat) (raw : Bytes) : Except DecodeDetail (BitVec payloadBits) :=
  if 8 * raw.length < m + l + payloadBits then .error .tooShort
  else if 8 * raw.length > m + l + payloadBits then .error .unpackMismatch
  else .ok (BitVec.ofNat payloadBits (intBe raw >>> l))

/-- The window that `good_packet` rebuilds: the constant preamble and the packet's own fields (R156). -/
def packetWindow (p : DecodedPacket) : Bytes := window p.id p.separator p.counter p.command

/-- The checksum that `good_packet` recomputes (R156). -/
def packetCrc (p : DecodedPacket) : BitVec crcWidth := checksum (packetWindow p)

end Sys2Proof.Machine
end

