-- ==== Sys2Proof/Machine/CommandModel.lean ====
section
/-! DEFINITION. The Command Model (43_command_model.md): the repetition loop, the one-frame and the two-frame operations,
and the scale maps. A command operation hands its command code to the data path; the code's own row builds the frame
and hands it on, and the frame's row starts the repetition loop (R220: "Command Model → Frame Codec → CRC Engine →
transceiver driver"). -/

namespace Sys2Proof.Machine

/-- The counter of the frame being built: `c` in the first frame, `(c + 1) mod 256` in the second (R223). -/
def Command.frameCounter (c : Command) : Byte := c.counter + BitVec.ofNat 8 (c.frameIx - 1)

/-- The next frame's turn: `frame_ix` 2, and no code left after it (R240). -/
def Command.advance (c : Command) : Command := { c with frameIx := c.frameIx + 1, nextCode := none }

/-- The counter update that ends a command operation: one for each frame, only without an explicit counter (R224). -/
def Command.seqAfter (c : Command) (seq : Byte) : Byte :=
  if c.implicit then seq + BitVec.ofNat 8 c.frameIx else seq

/-- The frame of `cmd` is sent. With a code left, the next frame's turn comes; else the counter is updated and the
operation responds with `write_fails` (R224, R227, R240). -/
def commandSent (cmd : Command) (fails : Nat) (s : State) : State :=
  match cmd.nextCode with
  | some code => (s.putRunning (some (.emit cmd.advance fails))).putPath (some (.code code))
  | none => (s.putSeq (cmd.seqAfter s.seqCtr)).finish (reply .ok (.writeFails fails))

/-- The end of the repetition loop (R225): a `SEND` of its own responds, a command operation goes on. -/
def sendDone (fails : Nat) (cmd : Option Command) (s : State) : State :=
  match cmd with
  | some c => commandSent c fails s
  | none => s.finish (reply .ok (.writeFails fails))

/-- The repetition loop at its head: `for rep from 1 to CFG_REPEAT`, which runs zero times when `CFG_REPEAT` = 0 (R225). -/
def beginSend (f : Bytes) (fails : Nat) (cmd : Option Command) (s : State) : State :=
  if s.cfg.repeatCount = 0 then sendDone fails cmd s
  else s.putRunning (some (.send f 1 fails .act cmd))

/-- One step of the repetition loop (R225): the write, the wait after it, or the sampling of `shutdown_req` after that. -/
def sendStep (f : Bytes) (rep fails : Nat) (phase : LoopPhase) (cmd : Option Command) (s : State) : State :=
  match phase with
  | .act => (drvWrite f s).2.putRunning (some (.send f rep (countFail (drvWrite f s).1 fails) .wait cmd))
  | .wait => (waitMs s.cfg.delayMs.toNat s).putRunning (some (.send f rep fails .sample cmd))
  | .sample =>
    if (sampleShutdown s).1 then abort (sampleShutdown s).2
    else if rep < s.cfg.repeatCount.toNat then
      (sampleShutdown s).2.putRunning (some (.send f (rep + 1) fails .act cmd))
    else sendDone fails cmd (sampleShutdown s).2

/-- The head of every command operation (R227, R240, R241): refused outside a session; else the counter is chosen and
the first code goes onto the data path. `next` is the code of the second frame. -/
def startCommand (code : BitVec 16) (next : Option (BitVec 16)) (ctr : Option Byte) (s : State) : State :=
  if ready s then
    (s.putRunning (some (.emit ⟨counterOperand ctr s, ctr.isNone, 1, next⟩ 0))).putPath (some (.code code))
  else refuse s

/-- `SEND F` (R225). An `F` that is not `FRAME_LEN` bytes does not fit its port and is refused (R121, R337 (e)). -/
def execSend (f : Bytes) (s : State) : Host.Outcome State Fault Refusal :=
  .next (if ready s ∧ f.length = frameLen then beginSend f 0 none s else refuse s)

/-- `PWR [ctr=]` (R230). -/
def execPwr (ctr : Option Byte) (s : State) : Host.Outcome State Fault Refusal :=
  .next (startCommand (addCode familyPower s.cfg.pwrArg.toNat) none ctr s)

/-- `RST [ctr=]` (R231). -/
def execRst (ctr : Option Byte) (s : State) : Host.Outcome State Fault Refusal :=
  .next (startCommand (addCode familyReset s.cfg.rstArg.toNat) none ctr s)

/-- `COOL [step=] [ctr=]` (R232). -/
def execCool (stepArg : Option Int) (ctr : Option Byte) (s : State) : Host.Outcome State Fault Refusal :=
  .next (startCommand (addCode familyCooler (clampStep (stepOperand stepArg))) none ctr s)

/-- `WARM [step=] [ctr=]` (R233). -/
def execWarm (stepArg : Option Int) (ctr : Option Byte) (s : State) : Host.Outcome State Fault Refusal :=
  .next (startCommand (subCode s.build.subWidth familyWarmer (clampStep (stepOperand stepArg))) none ctr s)

/-- `BRT [step=] [ctr=]` (R234). -/
def execBrt (stepArg : Option Int) (ctr : Option Byte) (s : State) : Host.Outcome State Fault Refusal :=
  .next (startCommand (addCode familyBrighter (clampStep (stepOperand stepArg))) none ctr s)

/-- `DIM [step=] [ctr=]` (R235). -/
def execDim (stepArg : Option Int) (ctr : Option Byte) (s : State) : Host.Outcome State Fault Refusal :=
  .next (startCommand (subCode s.build.subWidth familyDimmer (clampStep (stepOperand stepArg))) none ctr s)

/-- `SETBRT value [ctr=]` (R240): the dimmer saturate code, not clamped, then `brighter(value)`. -/
def execSetbrt (value : Int) (ctr : Option Byte) (s : State) : Host.Outcome State Fault Refusal :=
  .next (startCommand (subCode s.build.subWidth familyDimmer satStep) (some (addCode familyBrighter (clampStep value))) ctr s)

/-- `SETCT value [ctr=]` (R241): the warmer saturate code, not clamped, then `cooler(value)`. -/
def execSetct (value : Int) (ctr : Option Byte) (s : State) : Host.Outcome State Fault Refusal :=
  .next (startCommand (subCode s.build.subWidth familyWarmer satStep) (some (addCode familyCooler (clampStep value))) ctr s)

/-- `SCALE.BRT b` (R262): refused outside 0 to 255. -/
def execScaleBrt (b : Int) (s : State) : Host.Outcome State Fault Refusal :=
  .next (if 0 ≤ b ∧ b ≤ brtTop.1 then s.respond (reply .ok (.scaled (scaleBrtOf s.build b.toNat))) else refuse s)

/-- `SCALE.CT m` (R263): refused outside 153 to 370. -/
def execScaleCt (m : Int) (s : State) : Host.Outcome State Fault Refusal :=
  .next (if ctLow.1 ≤ m ∧ m ≤ ctHigh.1 then s.respond (reply .ok (.scaled (scaleCtOf s.build m.toNat))) else refuse s)

end Sys2Proof.Machine
end

