-- ==== Sys2Proof/Machine/CrcEngine.lean ====
section
/-! DEFINITION. The CRC Engine's operations: `CRC.START`, `CRC.BYTE`, `CRC.READ`, `CRC.SUM` (42_crc_engine.md section 3). -/

namespace Sys2Proof.Machine

/-- `CRC.START` (R190). -/
def execCrcStart (s : State) : Host.Outcome State Fault Refusal :=
  .next ((s.putCrc crcInit).respond (reply .ok .none))

/-- `CRC.BYTE b` (R191). -/
def execCrcByte (b : Byte) (s : State) : Host.Outcome State Fault Refusal :=
  .next ((s.putCrc (crcByte s.crcReg b)).respond (reply .ok .none))

/-- `CRC.READ` (R192). -/
def execCrcRead (s : State) : Host.Outcome State Fault Refusal :=
  .next (s.respond (reply .ok (.crc s.crcReg)))

/-- `CRC.SUM W [, off=, n=]` (R193); a window past the end of its buffer is refused (R194). -/
def execCrcSum (w : Bytes) (win : Option (Nat × Nat)) (s : State) : Host.Outcome State Fault Refusal :=
  match windowOperand w win with
  | some v => .next ((s.putCrc (checksum v)).respond (reply .ok (.crc (checksum v))))
  | none => .next (refuse s)

end Sys2Proof.Machine
end

