-- ==== Sys2Proof/Machine/RemoteDecoder.lean ====
section
/-! DEFINITION. The Remote Decoder (45_remote_decoder.md): `RXPOLL` and `LISTEN`. `RXPOLL` runs its stages in one
step (R81); `LISTEN` hands a capture to the data path, whose rows run the same stages. -/

namespace Sys2Proof.Machine

/-- Where a report of the Remote Decoder goes: into `LISTEN`'s stream while `LISTEN` runs, else it is the response
of the operation (R313, R314). -/
def deliver (r : Response) (s : State) : State :=
  match s.running with
  | some (.listen _) => s.log (.report r)
  | _ => s.respond r

/-- Validate a packet and report it (R311, R156): `crc_reg` takes the recomputed checksum. -/
def validate (p : DecodedPacket) (s : State) : State :=
  deliver (reply .ok (.received p (goodBit (packetCrc p) p.crc))) (s.putCrc (packetCrc p))

/-- Report a capture that does not decode (R311, R334): it is discarded. -/
def discardCapture (d : DecodeDetail) (s : State) : State := deliver (reply .frameDecodeError (.captureError d)) s

/-- The strip of a capture with the session's constants (R311). A capture shorter than `CFG_CAP_LEN` is `TooShort`
whatever the constants are (R312), so a configuration whose `CFG_CAP_LEN` does not leave 72 bits decodes no capture
(R41; DEDUCED, assumption 20). -/
def sessionStrip (raw : Bytes) (s : State) : Except DecodeDetail (BitVec payloadBits) :=
  if raw.length < s.cfg.capLen.toNat then .error .tooShort
  else stripCapture s.cfg.stripMsb.toNat s.cfg.stripLsb.toNat raw

/-- The bytes taken from the driver's answer: the first `CFG_CAP_LEN`, a shorter answer whole (R312). -/
def captured (bytes : Bytes) (c : SessionConfig) : Bytes := bytes.take c.capLen.toNat

/-- `RXPOLL`'s stages on what the driver answered (R311); the pipe index is not used (R312). -/
def receive (answer : Option (Bytes × Nat)) (s : State) : State :=
  match answer with
  | none => s.respond (reply .ok .nothingAvailable)
  | some (bytes, _) =>
    match sessionStrip (captured bytes s.cfg) s with
    | .ok p => validate (unpackPayload p) s
    | .error d => discardCapture d s

/-- `RXPOLL` (R311). -/
def execRxpoll (s : State) : Host.Outcome State Fault Refusal :=
  .next (if ready s then receive (drvPoll s).1 (drvPoll s).2 else refuse s)

/-- `LISTEN`'s poll on what the driver answered: a capture goes onto the data path, and its report is emitted before the
wait that follows every poll (R314). -/
def listenPolled (answer : Option (Bytes × Nat)) (s : State) : State :=
  match answer with
  | none => s.putRunning (some (.listen .wait))
  | some (bytes, _) => (s.putRunning (some (.listen .wait))).putPath (some (.capture (captured bytes s.cfg)))

/-- One step of the poll loop (R314): the poll, the wait after it, or the sampling of `shutdown_req` after that. -/
def listenStep (phase : LoopPhase) (s : State) : State :=
  match phase with
  | .act => listenPolled (drvPoll s).1 (drvPoll s).2
  | .wait => (waitMs s.cfg.pollMs.toNat s).putRunning (some (.listen .sample))
  | .sample =>
    if (sampleShutdown s).1 then abort (sampleShutdown s).2
    else (sampleShutdown s).2.putRunning (some (.listen .act))

/-- `LISTEN` (R314): the poll loop at its head. -/
def execListen (s : State) : Host.Outcome State Fault Refusal :=
  .next (if ready s then s.putRunning (some (.listen .act)) else refuse s)

end Sys2Proof.Machine
end

