-- ==== Sys2Proof/Machine/DataPath.lean ====
section
/-! DEFINITION. The rows of kind "command_code" and "data_format": what the block does with each word that stands on
its data path. A command code is built into a frame (R227, R240, R241); a frame is transmitted with blind repetition
(R225); a capture is stripped to its payload (R150, R311); a payload is unpacked and validated (R153, R156). The host
cannot request one of them (R103, R120): only a running operation puts a word on the path. Assumption 4 says what a word
does when no operation is running, a case no run reaches. -/

namespace Sys2Proof.Machine

/-- Build the frame of a code for a command operation (R227): `F <- encode(dev_id, code, c)`, `crc_reg` takes its checksum,
and the frame goes onto the data path. -/
def buildFrame (code : BitVec 16) (counter : Byte) (s : State) : State :=
  (s.putCrc (checksum (window s.devId s.cfg.sep counter code))).putPath
    (some (.frame (frameOf s.devId s.cfg.sep counter code)))

/-- A command code on the data path (R227): the running command operation's frame is built. With no operation running the
code starts the one-frame template with the internal counter. -/
def emitCode (code : BitVec 16) (s : State) : Host.Outcome State Fault Refusal :=
  match s.running with
  | some (.emit cmd _) => .next (buildFrame code cmd.frameCounter s)
  | none =>
    .next (if ready s then (buildFrame code s.seqCtr s).putRunning (some (.emit ⟨s.seqCtr, true, 1, none⟩ 0)) else refuse s)
  | some _ => .fault .brokenPath

/-- A frame on the data path (R225): the repetition loop starts, for the running command operation or, with no operation
running, for the frame alone. -/
def emitFrame (f : Bytes) (s : State) : Host.Outcome State Fault Refusal :=
  match s.running with
  | some (.emit cmd fails) => .next (beginSend f fails (some cmd) s)
  | none => .next (if ready s then beginSend f 0 none s else refuse s)
  | some _ => .fault .brokenPath

/-- The strip stage (R150, R311): the payload goes onto the data path, or the capture is discarded with a report. -/
def stripStage (raw : Bytes) (s : State) : State :=
  match sessionStrip raw s with
  | .ok p => s.putPath (some (.payload p))
  | .error d => discardCapture d s

/-- `code.power_toggle` (R230). -/
def execCodePowerToggle (p : Byte) (s : State) : Host.Outcome State Fault Refusal :=
  emitCode (addCode familyPower p.toNat) s
/-- `code.cooler` (R232, R241). -/
def execCodeCooler (t : BitVec stepBits) (s : State) : Host.Outcome State Fault Refusal :=
  emitCode (addCode familyCooler t.toNat) s
/-- `code.warmer.step0` (R233). -/
def execCodeWarmerStep0 (s : State) : Host.Outcome State Fault Refusal :=
  emitCode (addCode familyWarmer 0) s
/-- `code.warmer.w8` (R233). -/
def execCodeWarmerW8 (n : BitVec stepBits) (s : State) : Host.Outcome State Fault Refusal :=
  emitCode (subCode .w8 familyWarmer (borrowed n.toNat)) s
/-- `code.warmer.w16` (R233). -/
def execCodeWarmerW16 (n : BitVec stepBits) (s : State) : Host.Outcome State Fault Refusal :=
  emitCode (subCode .w16 familyWarmer (borrowed n.toNat)) s
/-- `code.warmer.saturate.w8` (R241). -/
def execCodeWarmerSaturateW8 (s : State) : Host.Outcome State Fault Refusal :=
  emitCode (subCode .w8 familyWarmer satStep) s
/-- `code.warmer.saturate.w16` (R241). -/
def execCodeWarmerSaturateW16 (s : State) : Host.Outcome State Fault Refusal :=
  emitCode (subCode .w16 familyWarmer satStep) s
/-- `code.brighter` (R234, R240). -/
def execCodeBrighter (t : BitVec stepBits) (s : State) : Host.Outcome State Fault Refusal :=
  emitCode (addCode familyBrighter t.toNat) s
/-- `code.dimmer.step0` (R235). -/
def execCodeDimmerStep0 (s : State) : Host.Outcome State Fault Refusal :=
  emitCode (addCode familyDimmer 0) s
/-- `code.dimmer.w8` (R235). -/
def execCodeDimmerW8 (n : BitVec stepBits) (s : State) : Host.Outcome State Fault Refusal :=
  emitCode (subCode .w8 familyDimmer (borrowed n.toNat)) s
/-- `code.dimmer.w16` (R235). -/
def execCodeDimmerW16 (n : BitVec stepBits) (s : State) : Host.Outcome State Fault Refusal :=
  emitCode (subCode .w16 familyDimmer (borrowed n.toNat)) s
/-- `code.dimmer.saturate.w8` (R240). -/
def execCodeDimmerSaturateW8 (s : State) : Host.Outcome State Fault Refusal :=
  emitCode (subCode .w8 familyDimmer satStep) s
/-- `code.dimmer.saturate.w16` (R240). -/
def execCodeDimmerSaturateW16 (s : State) : Host.Outcome State Fault Refusal :=
  emitCode (subCode .w16 familyDimmer satStep) s
/-- `code.reset` (R231). -/
def execCodeReset (r : Byte) (s : State) : Host.Outcome State Fault Refusal :=
  emitCode (addCode familyReset r.toNat) s

/-- `FRAME` (R90, R225). -/
def execFrame (id : BitVec 24) (sep counter : Byte) (code crc : BitVec 16) (s : State) :
    Host.Outcome State Fault Refusal :=
  emitFrame (frameBytes id sep counter code crc) s

/-- `PAYLOAD` (R94, R153, R156): the unpacked packet is validated and reported. -/
def execPayload (p : DecodedPacket) (s : State) : Host.Outcome State Fault Refusal :=
  match s.running with
  | some (.listen _) => .next (validate p s)
  | none => .next (validate p s)
  | some _ => .fault .brokenPath

/-- `CAPTURE` (R93, R150, R311): the capture is stripped with the session's constants. -/
def execCapture (raw : Bytes) (s : State) : Host.Outcome State Fault Refusal :=
  match s.running with
  | some (.listen _) => .next (stripStage raw s)
  | none => .next (if ready s then stripStage raw s else refuse s)
  | some _ => .fault .brokenPath

end Sys2Proof.Machine
end

