-- ==== Sys2Proof/Machine/FrameCodec.lean ====
section
/-! DEFINITION. The Frame Codec's operations: `ENCODE`, `DECODE`, `GOODPKT` (41_frame_codec.md). -/

namespace Sys2Proof.Machine

/-- `ENCODE` with its separator chosen (R142). -/
def encodeWith (id : BitVec 24) (code : BitVec 16) (counter sep : Byte) (s : State) : State :=
  (s.putCrc (checksum (window id sep counter code))).respond (reply .ok (.frame (frameOf id sep counter code)))

/-- `ENCODE id, code, counter [, sep=]` (R142). -/
def execEncode (id : BitVec 24) (code : BitVec 16) (counter : Byte) (sep : Option Byte) (s : State) :
    Host.Outcome State Fault Refusal :=
  match sepOperand sep s with
  | some sp => .next (encodeWith id code counter sp s)
  | none => .next (refuse s)

/-- `DECODE` with its strip constants chosen (R150). -/
def decodeWith (m l : Nat) (raw : Bytes) (s : State) : State :=
  match stripCapture m l raw with
  | .ok p => s.respond (reply .ok (.packet (unpackPayload p)))
  | .error d => raiseError .frameDecodeError (.decodeError d) s

/-- `DECODE raw [, msb=, lsb=]` (R150). -/
def execDecode (raw : Bytes) (strip : Option (Nat × Nat)) (s : State) : Host.Outcome State Fault Refusal :=
  match stripOperand strip s with
  | some (m, l) => .next (decodeWith m l raw s)
  | none => .next (refuse s)

/-- `GOODPKT p` (R156). -/
def execGoodpkt (p : DecodedPacket) (s : State) : Host.Outcome State Fault Refusal :=
  .next ((s.putCrc (packetCrc p)).respond (reply .ok (.good (goodBit (packetCrc p) p.crc))))

end Sys2Proof.Machine
end

