-- ==== Sys2Proof/Machine/System.lean ====
section
/-! DEFINITION. The system operations `INIT` and `SHUTDOWN` (70_reset_and_hazards.md R372, R374). -/

namespace Sys2Proof.Machine

/-- The effect of an accepted `INIT` once `drv.isConnected()` has answered. -/
def initWith (connected : Bool) (id : BitVec 24) (seq : Byte) (c : SessionConfig) (s : State) : State :=
  if connected then (s.openSession id seq c).respond (reply .ok .none)
  else raiseError .hardwareUnavailable .none s.putFault

/-- `INIT DEVICE_ID, START_SEQ, configuration` (R372). -/
def execInit (id : BitVec 24) (seq : Byte) (c : SessionConfig) (s : State) : Host.Outcome State Fault Refusal :=
  .next (if initAllowed s then initWith (drvIsConnected s).1 id seq c (drvIsConnected s).2 else refuse s)

/-- `SHUTDOWN` (R374); never refused. -/
def execShutdown (s : State) : Host.Outcome State Fault Refusal :=
  .next ((shutDown s).respond (reply .ok .none))

end Sys2Proof.Machine
end

