-- ==== Sys2Proof/Machine/Dispatch.lean ====
section
/-! DEFINITION. The dispatch: one arm per row of spec/opcode_table.json, each one call of that row's meaning. -/

namespace Sys2Proof.Machine

def exec (i : Instr) (s : State) : Host.Outcome State Fault Refusal :=
  match i with
  | .init a b c => Sys2Proof.Machine.execInit a b c s
  | .shutdown => Sys2Proof.Machine.execShutdown s
  | .encodeOp a b c d => Sys2Proof.Machine.execEncode a b c d s
  | .decodeOp a b => Sys2Proof.Machine.execDecode a b s
  | .goodpkt p => Sys2Proof.Machine.execGoodpkt p s
  | .crcStart => Sys2Proof.Machine.execCrcStart s
  | .crcByte b => Sys2Proof.Machine.execCrcByte b s
  | .crcRead => Sys2Proof.Machine.execCrcRead s
  | .crcSum w win => Sys2Proof.Machine.execCrcSum w win s
  | .pwr ctr => Sys2Proof.Machine.execPwr ctr s
  | .cool t ctr => Sys2Proof.Machine.execCool t ctr s
  | .warm t ctr => Sys2Proof.Machine.execWarm t ctr s
  | .brt t ctr => Sys2Proof.Machine.execBrt t ctr s
  | .dim t ctr => Sys2Proof.Machine.execDim t ctr s
  | .rst ctr => Sys2Proof.Machine.execRst ctr s
  | .setbrt v ctr => Sys2Proof.Machine.execSetbrt v ctr s
  | .setct v ctr => Sys2Proof.Machine.execSetct v ctr s
  | .send f => Sys2Proof.Machine.execSend f s
  | .scaleBrt b => Sys2Proof.Machine.execScaleBrt b s
  | .scaleCt m => Sys2Proof.Machine.execScaleCt m s
  | .swmode target => Sys2Proof.Machine.execSwmode target s
  | .trysw target fallback => Sys2Proof.Machine.execTrysw target fallback s
  | .rxpoll => Sys2Proof.Machine.execRxpoll s
  | .listen => Sys2Proof.Machine.execListen s
  | .codePowerToggle p => Sys2Proof.Machine.execCodePowerToggle p s
  | .codeCooler t => Sys2Proof.Machine.execCodeCooler t s
  | .codeWarmerStep0 => Sys2Proof.Machine.execCodeWarmerStep0 s
  | .codeWarmerW8 n => Sys2Proof.Machine.execCodeWarmerW8 n s
  | .codeWarmerW16 n => Sys2Proof.Machine.execCodeWarmerW16 n s
  | .codeWarmerSaturateW8 => Sys2Proof.Machine.execCodeWarmerSaturateW8 s
  | .codeWarmerSaturateW16 => Sys2Proof.Machine.execCodeWarmerSaturateW16 s
  | .codeBrighter t => Sys2Proof.Machine.execCodeBrighter t s
  | .codeDimmerStep0 => Sys2Proof.Machine.execCodeDimmerStep0 s
  | .codeDimmerW8 n => Sys2Proof.Machine.execCodeDimmerW8 n s
  | .codeDimmerW16 n => Sys2Proof.Machine.execCodeDimmerW16 n s
  | .codeDimmerSaturateW8 => Sys2Proof.Machine.execCodeDimmerSaturateW8 s
  | .codeDimmerSaturateW16 => Sys2Proof.Machine.execCodeDimmerSaturateW16 s
  | .codeReset r => Sys2Proof.Machine.execCodeReset r s
  | .frame a b c d e => Sys2Proof.Machine.execFrame a b c d e s
  | .payload p => Sys2Proof.Machine.execPayload p s
  | .capture raw => Sys2Proof.Machine.execCapture raw s

end Sys2Proof.Machine
end

