-- ==== Sys2Proof/Machine/Sequencer.lean ====
section
/-! DEFINITION. The one sequencer (20_memory.md R80): where the next instruction comes from, and one step of a running
multi-step operation (R81). -/

namespace Sys2Proof.Machine

/-- One step of the running operation. An operation whose word is on the data path has no step of its own here. -/
def continueRun (r : Running) (s : State) : Host.Outcome State Fault Refusal :=
  match r with
  | .emit _ _ => .fault .brokenPath
  | .send f rep fails phase cmd => .next (sendStep f rep fails phase cmd s)
  | .trysw target fallback attempt phase => .next (tryStep target fallback attempt phase s)
  | .listen phase => .next (listenStep phase s)

/-- What the sequencer takes next: the word on the data path; else nothing new while an operation runs; else the
request the host presents ("only then accepts the next", R80). -/
def fetch (s : State) : Option Item :=
  match s.path with
  | some item => some item
  | none =>
    match s.running with
    | some _ => none
    | none => (s.host.head?).map Item.request

/-- The state once the item of `fetch` has been taken. -/
def afterFetch (s : State) : State :=
  match s.path with
  | some _ => s.putPath none
  | none => s.putHost s.host.tail

/-- An item that is no instruction: a request with a reserved select code is refused (R122, R337 (a)). -/
def rejectItem (item : Item) (s : State) : Host.Outcome State Fault Refusal :=
  match item with
  | .request _ => .next (refuse s)
  | _ => .fault .brokenPath

/-- A step at which nothing is fetched: the running operation goes on; with none the block waits for a request. -/
def idleStep (s : State) : Host.Outcome State Fault Refusal :=
  match s.running with
  | some r => continueRun r s
  | none => .next s

end Sys2Proof.Machine
end

