-- ==== Sys2Proof/Machine/Step.lean ====
section
/-! DEFINITION. One step of the machine, and the placing of an instruction where the next step fetches it. -/

namespace Sys2Proof.Machine

/-- One step: fetch, decode, execute (R80); with nothing to fetch, one step of the running operation. -/
def step (s : State) : Host.Outcome State Fault Refusal :=
  match fetch s with
  | some item =>
    match decode item with
    | .ok i => exec i (afterFetch s)
    | .error _ => rejectItem item (afterFetch s)
  | none => idleStep s

/-- `s` with the word `w` of the opcode table where the very next step fetches it: a select byte as the request the
host presents, with no operation running and nothing on the data path; any other word on the data path. -/
def State.withFetchWord (s : State) (nbits w : Nat) : State :=
  match tableItem nbits w with
  | .request r => ((s.putPath none).putRunning none).putHost (r :: s.host)
  | item => s.putPath (some item)

end Sys2Proof.Machine
end

