-- ==== Sys2Proof/Safety.lean ====
section
/-! DEFINITION. What the statements speak of: a run, an idle block, the invariant of every state a run reaches, and the
events of a repetition loop. -/

namespace Sys2Proof.Machine

/-- `k` steps of the machine. -/
abbrev runSteps (k : Nat) (s : State) : Host.Outcome State Fault Refusal := Host.Core.run Sys2Proof.core k s

/-- The block is between operations and nothing stands on its data path. -/
def State.idle (s : State) : Prop := s.path = none ∧ s.running = none

/-- A word of the command-code table (R102). -/
def listedCode (w : BitVec 16) : Prop := ∃ i, decodeCode w = .ok i

/-- A frame of the session with this counter: its CRC field is the checksum of its first 15 bytes (R91). -/
def sessionFrame (s : State) (counter : Byte) (f : Bytes) : Prop :=
  ∃ code, f = frameOf s.devId s.cfg.sep counter code

/-- `frame_ix` is 1 or 2, 2 only with no frame left, and a code still to be built is in the table (R28). -/
def Command.ok (c : Command) : Prop :=
  (c.frameIx = 1 ∨ (c.frameIx = 2 ∧ c.nextCode = none)) ∧ ∀ w, c.nextCode = some w → listedCode w

/-- The driver writes made for frames before the current one. -/
def writesBefore (s : State) (cmd : Option Command) : Nat :=
  match cmd with
  | none => 0
  | some c => (c.frameIx - 1) * s.cfg.repeatCount.toNat

/-- The transient indices are in the ranges of R28, and `write_fails` counts no more than the writes made (R226). -/
def runningOk (s : State) : Prop :=
  match s.running with
  | none => True
  | some (.emit c fails) => c.ok ∧ fails ≤ writesBefore s (some c)
  | some (.send f rep fails phase cmd) =>
    f.length = frameLen ∧ 1 ≤ rep ∧ rep ≤ s.cfg.repeatCount.toNat ∧
    fails ≤ writesBefore s cmd + (if phase = .act then rep - 1 else rep) ∧
    ∀ c, cmd = some c → c.ok ∧ sessionFrame s c.frameCounter f
  | some (.trysw target _ attempt phase) =>
    1 ≤ attempt ∧ attempt ≤ s.cfg.maxRetries.toNat ∧
    (1 < attempt ∨ phase ≠ .act → target = .transmitting ∧ s.radioState = .listening) ∧
    (phase ≠ .act → attempt < s.cfg.maxRetries.toNat)
  | some (.listen _) => True

/-- A word stands on the data path exactly when the running operation has put it there. -/
def pathOk (s : State) : Prop :=
  match s.path, s.running with
  | some (.code w), some (.emit _ _) => listedCode w
  | some (.frame f), some (.emit c _) => sessionFrame s c.frameCounter f
  | some (.capture _), some (.listen .wait) => True
  | some (.payload _), some (.listen .wait) => True
  | none, some (.emit _ _) => False
  | none, _ => True
  | _, _ => False

/-- The transceiver is released in `Idle` and opened for the direction of `radio_state` otherwise (R270). -/
def transceiverOk (s : State) : Prop :=
  match s.radioState with
  | .idle => s.transceiver = .released
  | .listening => s.transceiver =
      ⟨some ⟨s.cfg.channel, s.cfg.power, s.cfg.dataRate, s.cfg.capLen.toNat, s.cfg.crcMode⟩, some (.listening, s.cfg.pipeRx)⟩
  | .transmitting => s.transceiver =
      ⟨some ⟨s.cfg.channel, s.cfg.power, s.cfg.dataRate, frameLen, s.cfg.crcMode⟩, some (.transmitting, s.cfg.pipeTx)⟩

/-- The invariant. -/
structure State.Inv (s : State) : Prop where
  /-- `hw_fault` and `inited` are never both 1 (R332: after the fault "`inited` stays 0"). -/
  oneOfTwo : ¬(s.hwFault = true ∧ s.inited = true)
  /-- Outside a session the radio is `Idle` and no operation on session state runs (R373, R376). -/
  noSession : s.inited = false → s.radioState = .idle ∧ s.running = none
  /-- The transient indices. -/
  indices : runningOk s
  /-- The data path. -/
  onPath : pathOk s
  /-- The transceiver. -/
  radio : transceiverOk s

/-- The events of repetitions of `F`, newest first: each is a write and the wait after it (R225). -/
def sendEvents (f : Bytes) (ms : Nat) : Nat → List Event
  | 0 => []
  | n + 1 => .wait ms :: .writeBlocking f :: sendEvents f ms n

/-- The answers `false` among the driver's answers (R226). -/
def failsIn (answers : List Bool) : Nat := answers.count false

end Sys2Proof.Machine
end

