-- ==== Sys2Proof/Certificates/Slice0/Obligations.lean ====
section
/-! DEFINITION. The statements for the provers, from the numbered rules of spec/. A next state is written out as a record
update of the state before it, so that each such statement is the instruction's frame too: every field that is not
named is unchanged. `trace` is newest first. -/

open Sys2Proof Sys2Proof.Machine

/-! ## Reset, start-up, shutdown, refusals -/

/-- R371: the reset values, of the registers the rule gives a value, the transient state and the transceiver. -/
def Obligations.ResetLeavesTheSpecValues : Prop :=
  State.reset.crcReg = 0xFFFE#16 ∧ State.reset.radioState = .idle ∧ State.reset.hwFault = false ∧
  State.reset.inited = false ∧ State.reset.running = none ∧ State.reset.transceiver = ⟨none, none⟩

/-- R372: an `INIT` outside a session and without a hardware fault starts the session when the transceiver answers, and
latches `hw_fault` when it does not; `e` is the environment after the answer. Any other `INIT` is refused. -/
def Obligations.InitStartsTheSession : Prop :=
  (∀ r : Request, r.op = 0x00 → decodeRequest r = .ok (.init r.deviceId r.startSeq r.config)) ∧
  ∀ (s : State) (id : BitVec 24) (seq : Byte) (c : SessionConfig) (a : Bool) (e : Env),
    s.env.drawConnected = (a, e) →
    exec (.init id seq c) s = .next
      (if s.inited = true ∨ s.hwFault = true then
        { s with trace := .response ⟨.refused, false, .none⟩ :: s.trace }
      else if a = true then
        { s with
          devId := id, seqCtr := seq, cfg := c, inited := true, env := e
          trace := .response ⟨.ok, false, .none⟩ :: .isConnected :: s.trace }
      else
        { s with
          hwFault := true, env := e
          trace := .response ⟨.hardwareUnavailable, false, .none⟩ :: .isConnected :: s.trace })

/-- R374: `SHUTDOWN` is never refused; it releases the transceiver and puts every register in the reset state of R371, in
which `seq_ctr`, `dev_id` and the configuration are unspecified. What is no state of the block stays. -/
def Obligations.ShutdownResetsTheBlock : Prop :=
  (∀ r : Request, r.op = 0x01 → decodeRequest r = .ok .shutdown) ∧
  ∀ s : State, ∃ (seq : Byte) (id : BitVec 24) (c : SessionConfig), exec .shutdown s = .next
    { s with
      crcReg := 0xFFFE#16, seqCtr := seq, devId := id, cfg := c, radioState := .idle, hwFault := false, inited := false
      running := none, path := none, transceiver := ⟨none, none⟩
      trace := .response ⟨.ok, false, .none⟩ :: .release :: s.trace }

/-- R337 (b) and (c), with R51: outside a session, or after a hardware fault, every operation that reads session state is
refused and nothing but the response happens. -/
def Obligations.SessionOperationsRefusedOutsideASession : Prop :=
  ∀ (s : State) (i : Instr), (s.inited = false ∨ s.hwFault = true) →
    (i = .rxpoll ∨ i = .listen ∨ (∃ id k c, i = .encodeOp id k c none) ∨ (∃ raw, i = .decodeOp raw none) ∨
      (∃ c, i = .pwr c ∨ i = .rst c) ∨ (∃ t c, i = .cool t c ∨ i = .warm t c ∨ i = .brt t c ∨ i = .dim t c) ∨
      (∃ v c, i = .setbrt v c ∨ i = .setct v c) ∨ (∃ f, i = .send f) ∨ (∃ d, i = .swmode d) ∨ (∃ d b, i = .trysw d b)) →
    exec i s = .next { s with trace := .response ⟨.refused, false, .none⟩ :: s.trace }

/-- R122: a request with a select code that R120 does not list is refused: the request is consumed, the status is
`Refused`, and no state changes. -/
def Obligations.ReservedSelectCodesAreRefused : Prop :=
  ∀ (s : State) (r : Request) (h : List Request), s.path = none → s.running = none → s.host = r :: h →
    r.op ∉ ([0x00, 0x01, 0x10, 0x11, 0x12, 0x20, 0x21, 0x22, 0x23, 0x30, 0x31, 0x32, 0x33, 0x34, 0x35, 0x36, 0x37,
      0x38, 0x39, 0x3A, 0x40, 0x41, 0x50, 0x51] : List Byte) →
    step s = .next { s with host := h, trace := .response ⟨.refused, false, .none⟩ :: s.trace }

/-! ## CRC Engine -/

/-- R190: `CRC.START`, in every state, loads `crc_reg` with `0xFFFE`, responds `Ok`, and changes nothing else. -/
def Obligations.CrcStartLoadsTheInitialValue : Prop :=
  (∀ r : Request, r.op = 0x20 → decodeRequest r = .ok .crcStart) ∧
  ∀ s : State, exec .crcStart s = .next
    { s with crcReg := 0xFFFE#16, trace := .response ⟨.ok, false, .none⟩ :: s.trace }

/-- R191, with the bit order of R183: `CRC.BYTE b` in every state feeds the bits of `b` from bit 7 down to bit 0. -/
def Obligations.CrcByteFeedsEightBits : Prop :=
  (∀ r : Request, r.op = 0x21 → decodeRequest r = .ok (.crcByte r.b)) ∧
  ∀ (s : State) (b : Byte), exec (.crcByte b) s = .next
    { s with
      crcReg := crcBit (crcBit (crcBit (crcBit (crcBit (crcBit (crcBit (crcBit s.crcReg (b.getLsbD 7)) (b.getLsbD 6))
        (b.getLsbD 5)) (b.getLsbD 4)) (b.getLsbD 3)) (b.getLsbD 2)) (b.getLsbD 1)) (b.getLsbD 0)
      trace := .response ⟨.ok, false, .none⟩ :: s.trace }

/-- R192: `CRC.READ` in every state returns the register and changes nothing. -/
def Obligations.CrcReadReturnsTheRegister : Prop :=
  (∀ r : Request, r.op = 0x22 → decodeRequest r = .ok .crcRead) ∧
  ∀ s : State, exec .crcRead s = .next { s with trace := .response ⟨.ok, false, .crc s.crcReg⟩ :: s.trace }

/-- R193 and R194: `CRC.SUM` over the whole buffer, over a window of it, and refused past its end. -/
def Obligations.CrcSumOverAWindow : Prop :=
  (∀ r : Request, r.op = 0x23 →
    decodeRequest r = .ok (.crcSum r.window (if r.winValid = true then some (r.off, r.n) else none))) ∧
  ∀ (s : State) (w : Bytes),
    exec (.crcSum w none) s = .next
      { s with crcReg := checksum w, trace := .response ⟨.ok, false, .crc (checksum w)⟩ :: s.trace } ∧
    ∀ off n : Nat, exec (.crcSum w (some (off, n))) s = .next
      (if off + n ≤ w.length then
        { s with
          crcReg := checksum ((w.drop off).take n)
          trace := .response ⟨.ok, false, .crc (checksum ((w.drop off).take n))⟩ :: s.trace }
      else { s with trace := .response ⟨.refused, false, .none⟩ :: s.trace })

/-- R185 and R186: the empty window, and a window fed in pieces. -/
def Obligations.ChecksumOfEmptyAndOfPieces : Prop :=
  checksum [] = 0xFFFE#16 ∧ ∀ (r0 : BitVec 16) (a b : Bytes), crcFrom r0 (a ++ b) = crcFrom (crcFrom r0 a) b

/-- R183, the "equal form": XOR the byte into the high half of the register, then shift eight times. -/
def Obligations.CrcByteEqualsXorThenShift : Prop :=
  ∀ (r : BitVec 16) (x : Byte),
    crcByte r x =
      Nat.repeat (fun q : BitVec 16 => if q.getLsbD 15 = true then (q <<< 1) ^^^ 0x1021#16 else q <<< 1) 8
        (r ^^^ (x.setWidth 16 <<< 8))

/-- The step of R187's table form, with the table entry as its definition `T[i] = crc_byte(0x0000, i)`. -/
def Obligations.CrcByteByTable : Prop :=
  ∀ (r : BitVec 16) (x : Byte),
    crcByte r x = (r <<< 8) ^^^ crcByte 0#16 ((r >>> 8).setWidth 8 ^^^ x)

/-- R188 (a) and (b): the start value cancels, and feeding one byte is a bijection of the register values. -/
def Obligations.CrcIsLinearAndInvertible : Prop :=
  (∀ (r0 : BitVec 16) (a b : Bytes), a.length = b.length →
    crcFrom r0 a ^^^ crcFrom r0 b = crcFrom 0#16 (List.zipWith (fun x y => x ^^^ y) a b)) ∧
  ∀ x : Byte, Function.Bijective (fun r : BitVec 16 => crcByte r x)

/-- R189: a window followed by its own checksum, high byte first, has checksum zero. -/
def Obligations.ChecksumResidueIsZero : Prop :=
  ∀ w : Bytes, checksum (w ++ be 2 (checksum w).toNat) = 0#16

/-- The first sentence of R196: inverting any one bit of a window of any length changes its checksum. Bit `j` is bit `j`
of `int_be(W)`, which is front bit `8 * len(W) - 1 - j`. -/
def Obligations.ChecksumSeesEverySingleBit : Prop :=
  ∀ (w : Bytes) (j : Nat), j < 8 * w.length → checksum (be w.length (intBe w ^^^ 2 ^ j)) ≠ checksum w

/-- R193's corner case, as a run: an idle block that is given `CRC.START`, one `CRC.BYTE` for each byte of `W` and
`CRC.READ` responds with `checksum(W)` and ends with it in `crc_reg`, as CrcSumOverAWindow says of `CRC.SUM W`. -/
def Obligations.StreamingEqualsOneShot : Prop :=
  ∀ (s : State) (w : Bytes) (h : List Request), s.path = none → s.running = none →
    s.host = Request.zero 0x20 :: (w.map (fun b => { Request.zero 0x21 with b := b })) ++ (Request.zero 0x22 :: h) →
    runSteps (w.length + 2) s = .next
      { s with
        crcReg := checksum w, host := h
        trace := .response ⟨.ok, false, .crc (checksum w)⟩ ::
          (List.replicate (w.length + 1) (.response ⟨.ok, false, .none⟩) ++ s.trace) }

/-! ## Frame Codec -/

/-- R142: `ENCODE`. With the separator given it is accepted in every state; without it `CFG_SEP` is used, in a session. That
it is accepted with `hw_fault` = 1 too is the model's choice, by R337 (c) (assumption 17). -/
def Obligations.EncodeBuildsTheFrame : Prop :=
  (∀ r : Request, r.op = 0x10 →
    decodeRequest r = .ok (.encodeOp r.id r.code r.counter (if r.sepValid = true then some r.sep else none))) ∧
  ∀ (s : State) (id : BitVec 24) (code : BitVec 16) (counter sep : Byte),
    (exec (.encodeOp id code counter (some sep)) s = .next
      { s with
        crcReg := checksum (window id sep counter code)
        trace := .response ⟨.ok, false, .frame
          (window id sep counter code ++ be 2 (checksum (window id sep counter code)).toNat)⟩ :: s.trace }) ∧
    (s.inited = true → s.hwFault = false →
      exec (.encodeOp id code counter none) s = exec (.encodeOp id code counter (some s.cfg.sep)) s)

/-- R90 and R141: the seventeen bytes of a frame, written out, and the integer equation of R91. -/
def Obligations.FrameLayoutByteByByte : Prop :=
  ∀ (id : BitVec 24) (sep counter : Byte) (code : BitVec 16),
    frameOf id sep counter code =
      [0x53, 0x39, 0x14, 0xDD, 0x1C, 0x49, 0x34, 0x12,
        id.extractLsb' 16 8, id.extractLsb' 8 8, id.extractLsb' 0 8, sep, counter,
        code.extractLsb' 8 8, code.extractLsb' 0 8,
        (checksum ((frameOf id sep counter code).take 15)).extractLsb' 8 8,
        (checksum ((frameOf id sep counter code).take 15)).extractLsb' 0 8] ∧
    intBe (frameOf id sep counter code) =
      0x533914DD1C493412 * 2 ^ 72 + id.toNat * 2 ^ 48 + sep.toNat * 2 ^ 40 + counter.toNat * 2 ^ 32 + code.toNat * 2 ^ 16
        + (checksum ((frameOf id sep counter code).take 15)).toNat

/-- R144: for every frame that `ENCODE` returns, its length, its preamble, its CRC field, and the zero checksum of the whole. -/
def Obligations.EveryEncodedFrameIsValid : Prop :=
  ∀ (s t : State) (id : BitVec 24) (code : BitVec 16) (counter : Byte) (sep : Option Byte) (f : Bytes) (rest : List Event),
    exec (.encodeOp id code counter sep) s = .next t → t.trace = .response ⟨.ok, false, .frame f⟩ :: rest → rest = s.trace →
    f.length = 17 ∧ f.take 8 = [0x53, 0x39, 0x14, 0xDD, 0x1C, 0x49, 0x34, 0x12] ∧
    f.drop 15 = be 2 (checksum (f.take 15)).toNat ∧ checksum f = 0#16

/-- R150 and R151: `DECODE` with strip constants given, in every state: too short, too long, and the 72 bits cut at the
positions of R153. Without the pair the session's constants are used. No register is written. That `DECODE` with the pair is
accepted with `hw_fault` = 1 too is the model's choice, by R337 (c) (assumption 17). -/
def Obligations.DecodeStripsAndUnpacks : Prop :=
  (∀ r : Request, r.op = 0x11 →
    decodeRequest r = .ok (.decodeOp r.raw (if r.stripValid = true then some (r.msb, r.lsb) else none))) ∧
  ∀ (s : State) (raw : Bytes) (m l : Nat),
    (8 * raw.length < m + l + 72 → exec (.decodeOp raw (some (m, l))) s = .next
      { s with trace := .response ⟨.frameDecodeError, false, .decodeError .tooShort⟩ :: s.trace }) ∧
    (8 * raw.length > m + l + 72 → exec (.decodeOp raw (some (m, l))) s = .next
      { s with trace := .response ⟨.frameDecodeError, false, .decodeError .unpackMismatch⟩ :: s.trace }) ∧
    (8 * raw.length = m + l + 72 → exec (.decodeOp raw (some (m, l))) s = .next
      { s with
        trace := .response ⟨.ok, false, .packet
          { id := BitVec.ofNat 24 (intBe raw >>> (l + 48)), separator := BitVec.ofNat 8 (intBe raw >>> (l + 40))
            counter := BitVec.ofNat 8 (intBe raw >>> (l + 32)), command := BitVec.ofNat 16 (intBe raw >>> (l + 16))
            crc := BitVec.ofNat 16 (intBe raw >>> l) }⟩ :: s.trace }) ∧
    (s.inited = true → s.hwFault = false →
      exec (.decodeOp raw none) s = exec (.decodeOp raw (some (s.cfg.stripMsb.toNat, s.cfg.stripLsb.toNat))) s)

/-- R152: two captures that agree on the payload bits `V[B-m-1 : l]` decode alike, whatever the `m` leading and the `l`
trailing bits are. -/
def Obligations.DecodeIgnoresTheStrippedBits : Prop :=
  ∀ (s : State) (m l a a' j j' p : Nat) (n : Nat), 8 * n = m + l + 72 →
    a < 2 ^ m → a' < 2 ^ m → j < 2 ^ l → j' < 2 ^ l → p < 2 ^ 72 →
    exec (.decodeOp (be n (a * 2 ^ (72 + l) + p * 2 ^ l + j)) (some (m, l))) s =
      exec (.decodeOp (be n (a' * 2 ^ (72 + l) + p * 2 ^ l + j')) (some (m, l))) s

/-- R157 (a): a frame that `ENCODE` returns decodes, with `msb` = 64 and `lsb` = 0, to the fields it was made of, and the
packet is good. That `ENCODE` and `DECODE` with their operands are accepted with `hw_fault` = 1 too is the model's choice, by
R337 (c) (assumption 17). -/
def Obligations.WholeFrameRoundTrip : Prop :=
  ∀ (s : State) (id : BitVec 24) (sep counter : Byte) (code : BitVec 16),
    let f := frameOf id sep counter code
    let p : DecodedPacket := ⟨id, sep, counter, code, checksum (f.take 15)⟩
    exec (.encodeOp id code counter (some sep)) s = .next
      { s with crcReg := p.crc, trace := .response ⟨.ok, false, .frame f⟩ :: s.trace } ∧
    exec (.decodeOp f (some (64, 0))) s = .next { s with trace := .response ⟨.ok, false, .packet p⟩ :: s.trace } ∧
    exec (.goodpkt p) s = .next { s with crcReg := p.crc, trace := .response ⟨.ok, false, .good true⟩ :: s.trace }

/-- R157 (b): through a 12-byte capture with any 15 leading bits `a` and any 9 trailing bits `j`, in a session with the
default strip constants, and with them given as operands in every state. That `hw_fault` = 1 is among these states is the
model's choice, by R337 (c) (assumption 17). -/
def Obligations.CaptureRoundTrip : Prop :=
  ∀ (s : State) (id : BitVec 24) (sep counter : Byte) (code : BitVec 16) (a : BitVec 15) (j : BitVec 9),
    let f := frameOf id sep counter code
    let p : DecodedPacket := ⟨id, sep, counter, code, checksum (f.take 15)⟩
    let raw := be 12 (a.toNat * 2 ^ 81 + (intBe f % 2 ^ 72) * 2 ^ 9 + j.toNat)
    exec (.decodeOp raw (some (15, 9))) s = .next { s with trace := .response ⟨.ok, false, .packet p⟩ :: s.trace } ∧
    (s.inited = true → s.hwFault = false → s.cfg.stripMsb = 15 → s.cfg.stripLsb = 9 →
      exec (.decodeOp raw none) s = .next { s with trace := .response ⟨.ok, false, .packet p⟩ :: s.trace }) ∧
    exec (.goodpkt p) s = .next { s with crcReg := p.crc, trace := .response ⟨.ok, false, .good true⟩ :: s.trace }

/-- R156: `GOODPKT` in every state recomputes over the constant preamble and the packet's own fields. -/
def Obligations.GoodpktRecomputesTheCrc : Prop :=
  (∀ r : Request, r.op = 0x12 → decodeRequest r = .ok (.goodpkt r.packet)) ∧
  ∀ (s : State) (p : DecodedPacket),
    let c := checksum ([0x53, 0x39, 0x14, 0xDD, 0x1C, 0x49, 0x34, 0x12] ++ be 3 p.id.toNat ++ [p.separator] ++ [p.counter]
      ++ be 2 p.command.toNat)
    exec (.goodpkt p) s = .next
      { s with crcReg := c, trace := .response ⟨.ok, false, .good (decide (c = p.crc))⟩ :: s.trace }

/-- R158: inverting one of the 120 bits of a frame's window changes its checksum, and a good packet with exactly one of the
72 payload bits inverted is not good. -/
def Obligations.OneInvertedBitIsNeverGood : Prop :=
  (∀ (id : BitVec 24) (sep counter : Byte) (code : BitVec 16) (j : Nat), j < 120 →
    checksum (be 15 (intBe (window id sep counter code) ^^^ 2 ^ j)) ≠ checksum (window id sep counter code)) ∧
  ∀ (s : State) (p : DecodedPacket) (j : Nat), j < 72 →
    (∃ t, exec (.goodpkt p) s = .next t ∧ t.trace = .response ⟨.ok, false, .good true⟩ :: s.trace) →
    ∃ t, exec (.goodpkt (unpackPayload (packPayload p ^^^ (1#72 <<< j)))) s = .next t ∧
      t.trace = .response ⟨.ok, false, .good false⟩ :: s.trace

/-! ## Command Model -/

/-- R102's table, for both values of `SUB_WIDTH`: cooler, brighter, warmer and dimmer for every clamped step, and the
saturate codes. -/
def Obligations.CommandCodeTable : Prop :=
  (∀ t : Nat, t ≤ 15 → addCode 0x02 t = BitVec.ofNat 16 (0x0200 + t) ∧ addCode 0x04 t = BitVec.ofNat 16 (0x0400 + t)) ∧
  (∀ w : SubWidth, subCode w 0x03 0 = 0x0300#16 ∧ subCode w 0x05 0 = 0x0500#16) ∧
  (∀ t : Nat, 1 ≤ t → t ≤ 15 →
    subCode .w8 0x03 t = BitVec.ofNat 16 (0x0400 - t) ∧ subCode .w16 0x03 t = BitVec.ofNat 16 (0x0300 - t) ∧
    subCode .w8 0x05 t = BitVec.ofNat 16 (0x0600 - t) ∧ subCode .w16 0x05 t = BitVec.ofNat 16 (0x0500 - t)) ∧
  subCode .w8 0x03 16 = 0x03F0#16 ∧ subCode .w16 0x03 16 = 0x02F0#16 ∧
  subCode .w8 0x05 16 = 0x05F0#16 ∧ subCode .w16 0x05 16 = 0x04F0#16

/-- R221: negative steps become 0, steps above 15 become 15, and a step left out is 1. -/
def Obligations.StepsAreClamped : Prop :=
  (∀ v : Int, v < 0 → clampStep v = 0) ∧ (∀ v : Int, 15 < v → clampStep v = 15) ∧
  (∀ v : Int, 0 ≤ v → v ≤ 15 → (clampStep v : Int) = v) ∧
  ∀ (s : State) (ctr : Option Byte),
    exec (.cool none ctr) s = exec (.cool (some 1) ctr) s ∧ exec (.warm none ctr) s = exec (.warm (some 1) ctr) s ∧
    exec (.brt none ctr) s = exec (.brt (some 1) ctr) s ∧ exec (.dim none ctr) s = exec (.dim (some 1) ctr) s

/-- R225 and R226, as a run: in a session `SEND F` makes exactly `CFG_REPEAT` writes of `F`, each followed by its wait,
while `shutdown_req` is false at every sample; failed writes are counted and do not stop the loop. `CFG_REPEAT` = 0
writes nothing. No register is written. How many steps a repetition takes is the model's choice (assumption 11). An `F` that is not 17 bytes
long is refused in every state, which is the model's choice, by R337 (e) (assumption 9). -/
def Obligations.SendRepeatsBlindly : Prop :=
  (∀ r : Request, r.op = 0x38 → decodeRequest r = .ok (.send r.f)) ∧
  (∀ (s : State) (f : Bytes), f.length ≠ 17 →
    exec (.send f) s = .next { s with trace := .response ⟨.refused, false, .none⟩ :: s.trace }) ∧
  ∀ (s : State) (f : Bytes) (answers restW restS : List Bool),
    s.inited = true → s.hwFault = false → s.path = none → f.length = 17 →
    answers.length = s.cfg.repeatCount.toNat →
    s.env.writeOk = answers ++ restW → s.env.shutdown = List.replicate s.cfg.repeatCount.toNat false ++ restS →
    ∃ t, exec (.send f) s = .next t ∧
      runSteps (3 * s.cfg.repeatCount.toNat) t = .next
        { s with
          running := none
          env := { s.env with writeOk := restW, shutdown := restS }
          trace := .response ⟨.ok, false, .writeFails (answers.count false)⟩ ::
            (sendEvents f s.cfg.delayMs.toNat s.cfg.repeatCount.toNat ++ s.trace) }

/-- R227, R223, R224 with R230 to R235, as a run: each one-frame operation, in a session, builds its frame with the chosen
counter, transmits it `CFG_REPEAT` times, advances `seq_ctr` by one modulo 256 only without an explicit counter, and
responds with `write_fails`. The number of steps is the model's choice (assumptions 4 and 11). -/
def Obligations.OneFrameOperationsComplete : Prop :=
  ∀ (s : State) (ctr : Option Byte) (st : Option Int) (i : Instr) (code : BitVec 16) (answers restW restS : List Bool),
    let t : Nat := clampStep (st.getD 1)
    let c : Byte := ctr.getD s.seqCtr
    let f : Bytes := frameOf s.devId s.cfg.sep c code
    (i, code) ∈ [(Instr.pwr ctr, 0x01#8 ++ s.cfg.pwrArg), (Instr.rst ctr, 0x06#8 ++ s.cfg.rstArg),
      (Instr.cool st ctr, BitVec.ofNat 16 (0x0200 + t)), (Instr.warm st ctr, subCode s.build.subWidth 0x03 t),
      (Instr.brt st ctr, BitVec.ofNat 16 (0x0400 + t)), (Instr.dim st ctr, subCode s.build.subWidth 0x05 t)] →
    s.inited = true → s.hwFault = false →
    answers.length = s.cfg.repeatCount.toNat →
    s.env.writeOk = answers ++ restW → s.env.shutdown = List.replicate s.cfg.repeatCount.toNat false ++ restS →
    ∃ u, exec i s = .next u ∧
      runSteps (2 + 3 * s.cfg.repeatCount.toNat) u = .next
        { s with
          crcReg := checksum (window s.devId s.cfg.sep c code)
          seqCtr := if ctr = none then s.seqCtr + 1 else s.seqCtr
          running := none, path := none
          env := { s.env with writeOk := restW, shutdown := restS }
          trace := .response ⟨.ok, false, .writeFails (answers.count false)⟩ ::
            (sendEvents f s.cfg.delayMs.toNat s.cfg.repeatCount.toNat ++ s.trace) }

/-- R240 and R241, as a run: `SETBRT` and `SETCT` transmit the saturate frame, not clamped, at counter `c`, all its
repetitions before the first of the second frame at `(c + 1) mod 256`, and advance `seq_ctr` by two modulo 256 only
without an explicit counter. The number of steps is the model's choice (assumptions 4 and 11). -/
def Obligations.TwoFrameOperationsComplete : Prop :=
  ∀ (s : State) (ctr : Option Byte) (v : Int) (i : Instr) (code1 code2 : BitVec 16) (answers restW restS : List Bool),
    let c : Byte := ctr.getD s.seqCtr
    let n : Nat := s.cfg.repeatCount.toNat
    (i, code1, code2) ∈
      [(Instr.setbrt v ctr, subCode s.build.subWidth 0x05 16, BitVec.ofNat 16 (0x0400 + clampStep v)),
        (Instr.setct v ctr, subCode s.build.subWidth 0x03 16, BitVec.ofNat 16 (0x0200 + clampStep v))] →
    s.inited = true → s.hwFault = false →
    answers.length = 2 * n →
    s.env.writeOk = answers ++ restW → s.env.shutdown = List.replicate (2 * n) false ++ restS →
    ∃ u, exec i s = .next u ∧
      runSteps (4 + 6 * n) u = .next
        { s with
          crcReg := checksum (window s.devId s.cfg.sep (c + 1) code2)
          seqCtr := if ctr = none then s.seqCtr + 2 else s.seqCtr
          running := none, path := none
          env := { s.env with writeOk := restW, shutdown := restS }
          trace := .response ⟨.ok, false, .writeFails (answers.count false)⟩ ::
            (sendEvents (frameOf s.devId s.cfg.sep (c + 1) code2) s.cfg.delayMs.toNat n ++
              (sendEvents (frameOf s.devId s.cfg.sep c code1) s.cfg.delayMs.toNat n ++ s.trace)) }

/-- R375: `shutdown_req` true at a sampling point of `SEND`, of a command operation, of `TRYSW` or of `LISTEN` abandons the
operation: `drv.release()`, every register in the reset state of R371 (where `seq_ctr`, `dev_id` and the configuration are
unspecified), and the response has `aborted` = 1 and no other result. -/
def Obligations.ShutdownRequestAbandonsTheOperation : Prop :=
  ∀ (s : State) (e : Env), s.path = none → s.env.drawShutdown = (true, e) →
    ((∃ f rep fails cmd, s.running = some (.send f rep fails .sample cmd)) ∨
      (∃ d b n, s.running = some (.trysw d b n .sample)) ∨ s.running = some (.listen .sample)) →
    ∃ (seq : Byte) (id : BitVec 24) (c : SessionConfig), step s = .next
      { s with
        crcReg := 0xFFFE#16, seqCtr := seq, devId := id, cfg := c, radioState := .idle, hwFault := false, inited := false
        running := none, transceiver := ⟨none, none⟩, env := e
        trace := .response ⟨.ok, true, .none⟩ :: .release :: s.trace }

/-- R262: `SCALE.BRT` is accepted in every state and writes nothing; inputs outside 0 to 255 are refused; the result is
the build's map, which is `(15*b + 127) div 255` for a build with the spec's default; every map from 0..255 to 0..15 is
the map of some build. -/
def Obligations.ScaleBrightness : Prop :=
  (∀ r : Request, r.op = 0x39 → decodeRequest r = .ok (.scaleBrt r.scaleB)) ∧
  (∀ (s : State) (b : Int),
    ((b < 0 ∨ 255 < b) → exec (.scaleBrt b) s = .next { s with trace := .response ⟨.refused, false, .none⟩ :: s.trace }) ∧
    (0 ≤ b → b ≤ 255 → exec (.scaleBrt b) s = .next
      { s with trace := .response ⟨.ok, false, .scaled (scaleBrtOf s.build b.toNat)⟩ :: s.trace })) ∧
  (∀ (d : Build) (b : Nat), d.scaleBrt = [] → b ≤ 255 → (scaleBrtOf d b).toNat = (15 * b + 127) / 255) ∧
  ∀ (d : Build) (g : Nat → BitVec 4), ∃ l, ∀ b : Nat, b ≤ 255 → scaleBrtOf { d with scaleBrt := l } b = g b

/-- R263: `SCALE.CT` is accepted in every state and writes nothing; inputs outside 153 to 370 are refused; the three values
the source fixes hold for every build; with the default rounding the result is `floor(q + 1/2)`; every map from 153..370
to 0..15 with the three fixed values is the map of some build. -/
def Obligations.ScaleColourTemperature : Prop :=
  (∀ r : Request, r.op = 0x3A → decodeRequest r = .ok (.scaleCt r.scaleM)) ∧
  (∀ (s : State) (m : Int),
    ((m < 153 ∨ 370 < m) → exec (.scaleCt m) s = .next { s with trace := .response ⟨.refused, false, .none⟩ :: s.trace }) ∧
    (153 ≤ m → m ≤ 370 → exec (.scaleCt m) s = .next
      { s with trace := .response ⟨.ok, false, .scaled (scaleCtOf s.build m.toNat)⟩ :: s.trace })) ∧
  (∀ d : Build, scaleCtOf d 153 = 15 ∧ scaleCtOf d 219 = 7 ∧ scaleCtOf d 370 = 0 ∧ (d.scaleCt = [] →
    (∀ m : Nat, 153 ≤ m → m ≤ 219 → ((scaleCtOf d m).toNat : Int) = ⌊(15 - 8 * ((m : ℚ) - 153) / 66) + 1 / 2⌋) ∧
    ∀ m : Nat, 219 ≤ m → m ≤ 370 → ((scaleCtOf d m).toNat : Int) = ⌊(7 - 7 * ((m : ℚ) - 219) / 151) + 1 / 2⌋)) ∧
  ∀ (d : Build) (g : Nat → BitVec 4), g 153 = 15 → g 219 = 7 → g 370 = 0 →
    ∃ l, ∀ m : Nat, 153 ≤ m → m ≤ 370 → scaleCtOf { d with scaleCt := l } m = g m

/-! ## Radio Mode Arbiter -/

/-- R278, the whole transition table of `SWMODE` in a session, with the driver calls of R272: the busy row changes nothing
but the environment; every other row configures, opens and writes `radio_state`. -/
def Obligations.SwmodeTransitionTable : Prop :=
  (∀ r : Request, r.op = 0x40 →
    decodeRequest r = .ok (.swmode (if r.target = true then .transmitting else .listening))) ∧
  ∀ (s : State) (b : Bool) (e : Env), s.inited = true → s.hwFault = false → s.env.drawInflight = (b, e) →
    (exec (.swmode .listening) s = .next
      { s with
        env := e, radioState := .listening
        transceiver := ⟨some ⟨s.cfg.channel, s.cfg.power, s.cfg.dataRate, s.cfg.capLen.toNat, s.cfg.crcMode⟩,
          some (.listening, s.cfg.pipeRx)⟩
        trace := .response ⟨.ok, false, .none⟩ :: .openRadio .listening s.cfg.pipeRx ::
          .configure s.cfg.channel s.cfg.power s.cfg.dataRate s.cfg.capLen.toNat s.cfg.crcMode :: s.trace }) ∧
    (s.radioState = .listening → b = true → exec (.swmode .transmitting) s = .next
      { s with env := e, trace := .response ⟨.receiverBusy, false, .none⟩ :: s.trace }) ∧
    (s.radioState ≠ .listening ∨ b = false → exec (.swmode .transmitting) s = .next
      { s with
        env := e, radioState := .transmitting
        transceiver := ⟨some ⟨s.cfg.channel, s.cfg.power, s.cfg.dataRate, 17, s.cfg.crcMode⟩,
          some (.transmitting, s.cfg.pipeTx)⟩
        trace := .response ⟨.ok, false, .none⟩ :: .openRadio .transmitting s.cfg.pipeTx ::
          .configure s.cfg.channel s.cfg.power s.cfg.dataRate 17 s.cfg.crcMode :: s.trace })

/-- R285 and the head of R280: `TRYSW` in a session with `CFG_MAX_RETRIES` = 0 goes straight to exhaustion, with one of the two
endings of R283; otherwise its first attempt comes next. That no attempt is made yet in the step that starts the loop is
the model's choice (assumption 11). -/
def Obligations.TryswStartsOrIsExhaustedAtOnce : Prop :=
  (∀ r : Request, r.op = 0x41 →
    decodeRequest r = .ok (.trysw (if r.target = true then .transmitting else .listening) r.fallbackEn)) ∧
  ∀ (s : State) (d : Direction), s.inited = true → s.hwFault = false →
    (s.cfg.maxRetries ≠ 0 → ∀ fb, exec (.trysw d fb) s = .next { s with running := some (.trysw d fb 1 .act) }) ∧
    (s.cfg.maxRetries = 0 →
      exec (.trysw d true) s = .next
        { s with
          running := none
          trace := .response ⟨.ok, false, .trySwitch false 0 true⟩ :: .fallback :: s.trace } ∧
      exec (.trysw d false) s = .next
        { s with running := none, trace := .response ⟨.receiverBusy, false, .trySwitch false 0 false⟩ :: s.trace })

/-- R281, R282 and R283, as a run: with `tx_inflight` true at every attempt out of `Listening`, `TRYSW Transmitting` makes
exactly `CFG_MAX_RETRIES` attempts with one backoff between two of them, makes no driver call, leaves `radio_state` alone,
and ends with the fallback event or with `ReceiverBusy`. The number of steps is the model's choice (assumption 11). -/
def Obligations.TryswExhaustsItsBound : Prop :=
  ∀ (s : State) (fb : Bool) (n : Nat) (restT restS : List Bool),
    s.inited = true → s.hwFault = false → s.path = none → s.radioState = .listening →
    s.cfg.maxRetries.toNat = n + 1 →
    s.env.txInflight = List.replicate (n + 1) true ++ restT → s.env.shutdown = List.replicate n false ++ restS →
    ∃ t, exec (.trysw .transmitting fb) s = .next t ∧
      runSteps (3 * n + 1) t = .next
        { s with
          running := none
          env := { s.env with txInflight := restT, shutdown := restS }
          trace := (if fb = true then
              [.response ⟨.ok, false, .trySwitch false (n + 1) true⟩, .fallback]
            else [.response ⟨.receiverBusy, false, .trySwitch false (n + 1) false⟩]) ++
            (List.replicate n (.wait s.cfg.backoffMs.toNat) ++ s.trace) }

/-- R280, R286 and R287, as a run: `TRYSW Transmitting` out of `Listening` that is busy `k` times and then is not succeeds at
attempt `k + 1`, after `k` backoffs, and only that attempt calls the driver. The number of steps is the model's choice
(assumption 11). -/
def Obligations.TryswSucceedsAtTheFirstFreeAttempt : Prop :=
  ∀ (s : State) (fb : Bool) (k : Nat) (restT restS : List Bool),
    s.inited = true → s.hwFault = false → s.path = none → s.radioState = .listening →
    k < s.cfg.maxRetries.toNat →
    s.env.txInflight = List.replicate k true ++ (false :: restT) → s.env.shutdown = List.replicate k false ++ restS →
    ∃ t, exec (.trysw .transmitting fb) s = .next t ∧
      runSteps (3 * k + 1) t = .next
        { s with
          running := none, radioState := .transmitting
          transceiver := ⟨some ⟨s.cfg.channel, s.cfg.power, s.cfg.dataRate, 17, s.cfg.crcMode⟩,
            some (.transmitting, s.cfg.pipeTx)⟩
          env := { s.env with txInflight := restT, shutdown := restS }
          trace := .response ⟨.ok, false, .trySwitch true (k + 1) false⟩ :: .openRadio .transmitting s.cfg.pipeTx ::
            .configure s.cfg.channel s.cfg.power s.cfg.dataRate 17 s.cfg.crcMode ::
            (List.replicate k (.wait s.cfg.backoffMs.toNat) ++ s.trace) }

/-- R286: with the target `Listening`, or with `radio_state` not `Listening`, the first attempt succeeds whatever
`tx_inflight` is. That the attempt is the one step after the operation's start is the model's choice (assumption 11). -/
def Obligations.TryswFirstAttemptSucceeds : Prop :=
  ∀ (s : State) (d : Direction) (fb b : Bool) (e : Env),
    s.inited = true → s.hwFault = false → s.path = none → s.cfg.maxRetries ≠ 0 →
    (d = .listening ∨ s.radioState ≠ .listening) → s.env.drawInflight = (b, e) →
    ∃ t, exec (.trysw d fb) s = .next t ∧ step t = .next
      { s with
        running := none, radioState := radioOf d, env := e
        transceiver := ⟨some ⟨s.cfg.channel, s.cfg.power, s.cfg.dataRate, payloadSize d s.cfg, s.cfg.crcMode⟩,
          some (d, pipeOf d s.cfg)⟩
        trace := .response ⟨.ok, false, .trySwitch true 1 false⟩ :: .openRadio d (pipeOf d s.cfg) ::
          .configure s.cfg.channel s.cfg.power s.cfg.dataRate (payloadSize d s.cfg) s.cfg.crcMode :: s.trace }

/-- R271: "transitions only via `switchMode`". A step that is neither a `SWMODE` nor an attempt of `TRYSW` records no
`drv.configure` and no `drv.open`, and leaves `radio_state` alone unless it resets the block, with a release. -/
def Obligations.OnlyTheArbiterSwitchesTheRadio : Prop :=
  ∀ s t : State, step s = .next t →
    (¬ ∃ item d, fetch s = some item ∧ decode item = .ok (.swmode d)) →
    (¬ ∃ d fb n, fetch s = none ∧ s.running = some (.trysw d fb n .act)) →
    ∃ new : List Event, t.trace = new ++ s.trace ∧
      (∀ e ∈ new, (∀ c p r n m, e ≠ .configure c p r n m) ∧ (∀ d p, e ≠ .openRadio d p)) ∧
      (t.radioState = s.radioState ∨ (t.radioState = .idle ∧ t.inited = false ∧ .release ∈ new))

/-! ## Remote Decoder -/

/-- R311 and R312: `RXPOLL` in a session, on every answer of the driver: nothing; an answer shorter than `CFG_CAP_LEN`; its
first `CFG_CAP_LEN` bytes, which leave too few or too many bits, or decode, with the packet, the recomputed checksum in
`crc_reg`, and `good`. The pipe index is not used. The last clause is R41's: with a `CFG_CAP_LEN` that does not leave 72
bits every capture found is a `FrameDecodeError`. That a short answer is `TooShort` also where its own length leaves 72 bits
is read from R312 and R41 (assumption 20). -/
def Obligations.RxpollReportsOneCapture : Prop :=
  (∀ r : Request, r.op = 0x50 → decodeRequest r = .ok .rxpoll) ∧
  ∀ (s : State) (e : Env), s.inited = true → s.hwFault = false → s.running = none →
    (s.env.drawPoll = (none, e) → exec .rxpoll s = .next
      { s with env := e, trace := .response ⟨.ok, false, .nothingAvailable⟩ :: .pollAvailable :: s.trace }) ∧
    ∀ (bytes : Bytes) (pipe : Nat), s.env.drawPoll = (some (bytes, pipe), e) →
      let cap := s.cfg.capLen.toNat
      let need := s.cfg.stripMsb.toNat + s.cfg.stripLsb.toNat + 72
      (bytes.length < cap ∨ 8 * cap < need → exec .rxpoll s = .next
        { s with
          env := e
          trace := .response ⟨.frameDecodeError, false, .captureError .tooShort⟩ :: .pollAvailable :: s.trace }) ∧
      (cap ≤ bytes.length → need < 8 * cap → exec .rxpoll s = .next
        { s with
          env := e
          trace := .response ⟨.frameDecodeError, false, .captureError .unpackMismatch⟩ :: .pollAvailable :: s.trace }) ∧
      (cap ≤ bytes.length → 8 * cap = need →
        let p := unpackPayload (BitVec.ofNat 72 (intBe (bytes.take cap) >>> s.cfg.stripLsb.toNat))
        let c := checksum (window p.id p.separator p.counter p.command)
        exec .rxpoll s = .next
          { s with
            env := e, crcReg := c
            trace := .response ⟨.ok, false, .received p (decide (c = p.crc))⟩ :: .pollAvailable :: s.trace }) ∧
      (8 * cap ≠ need → ∃ d, exec .rxpoll s = .next
        { s with
          env := e, trace := .response ⟨.frameDecodeError, false, .captureError d⟩ :: .pollAvailable :: s.trace })

/-- R314: `LISTEN` in a session starts its poll loop; each poll of the loop, in one to three steps, reports exactly what
`RXPOLL` would answer in the same state (nothing when nothing was available), leaves `crc_reg` as `RXPOLL` would, and is
followed by the wait. The number of steps is the model's choice (assumption 12). -/
def Obligations.ListenReportsWhatRxpollAnswers : Prop :=
  (∀ r : Request, r.op = 0x51 → decodeRequest r = .ok .listen) ∧
  ∀ s : State, s.inited = true → s.hwFault = false → s.path = none →
    exec .listen s = .next { s with running := some (.listen .act) } ∧
    (s.running = none → ∃ (t : State) (ρ : Response) (past : List Event) (k : Nat) (u : State),
      exec .rxpoll s = .next t ∧ t.trace = .response ρ :: past ∧ 1 ≤ k ∧ k ≤ 3 ∧
      runSteps k { s with running := some (.listen .act) } = .next u ∧
      u = { t with
        running := some (.listen .wait)
        trace := if ρ.result = .nothingAvailable then past else .report ρ :: past })

/-- R314 and R316: `LISTEN` has no end of its own. While it runs every step leads to a next state in which it still runs,
except a sample at which `shutdown_req` is true; a step that waits records the wait of `CFG_POLL_MS`. -/
def Obligations.ListenEndsOnlyByShutdown : Prop :=
  ∀ (s : State) (ph : LoopPhase), s.running = some (.listen ph) →
    (s.path = none ∨ (ph = .wait ∧ ((∃ raw, s.path = some (.capture raw)) ∨ ∃ p, s.path = some (.payload p)))) →
    ∃ t, step s = .next t ∧
      ((∃ ph', t.running = some (.listen ph')) ∨ (s.path = none ∧ ph = .sample ∧ s.env.drawShutdown.1 = true)) ∧
      (s.path = none → ph = .wait → t.trace = .wait s.cfg.pollMs.toNat :: s.trace ∧ t.running = some (.listen .sample))

/-! ## The rows of the data path -/

/-- R227, the line `F <- encode(dev_id, code, c)`: each row of the command-code table, on the data path of a running command
operation, leaves its frame on the path and the frame's checksum in `crc_reg`. That the words stand on a data path between steps is
the model's choice (assumption 4). -/
def Obligations.EveryListedCodeIsBuiltIntoAFrame : Prop :=
  ∀ (s : State) (cmd : Command) (fails : Nat) (p r : Byte) (t n : BitVec 4) (i : Instr) (code : BitVec 16),
    s.running = some (.emit cmd fails) → (cmd.frameIx = 1 ∨ cmd.frameIx = 2) →
    (i, code) ∈ [(Instr.codePowerToggle p, 0x01#8 ++ p), (Instr.codeCooler t, 0x020#12 ++ t), (Instr.codeWarmerStep0, 0x0300),
      (Instr.codeWarmerW8 n, 0x03F#12 ++ n), (Instr.codeWarmerW16 n, 0x02F#12 ++ n), (Instr.codeWarmerSaturateW8, 0x03F0),
      (Instr.codeWarmerSaturateW16, 0x02F0), (Instr.codeBrighter t, 0x040#12 ++ t), (Instr.codeDimmerStep0, 0x0500),
      (Instr.codeDimmerW8 n, 0x05F#12 ++ n), (Instr.codeDimmerW16 n, 0x04F#12 ++ n), (Instr.codeDimmerSaturateW8, 0x05F0),
      (Instr.codeDimmerSaturateW16, 0x04F0), (Instr.codeReset r, 0x06#8 ++ r)] →
    let c : Byte := if cmd.frameIx = 1 then cmd.counter else cmd.counter + 1
    exec i s = .next
      { s with
        crcReg := checksum (window s.devId s.cfg.sep c code)
        path := some (.frame (frameOf s.devId s.cfg.sep c code)) }

/-- R225 for the FRAME row: a frame on the data path of a running command operation starts its repetition loop; with
`CFG_REPEAT` = 0 the loop runs zero times, and the operation goes on to its second code or ends (R224). The data path is
the model's choice (assumption 4). -/
def Obligations.AFrameOnThePathIsTransmitted : Prop :=
  ∀ (s : State) (cmd : Command) (fails : Nat) (id : BitVec 24) (sep counter : Byte) (code crc : BitVec 16),
    s.running = some (.emit cmd fails) →
    (s.cfg.repeatCount ≠ 0 → exec (.frame id sep counter code crc) s = .next
      { s with
        running := some (.send ([0x53, 0x39, 0x14, 0xDD, 0x1C, 0x49, 0x34, 0x12] ++ be 3 id.toNat ++ [sep] ++ [counter] ++
          be 2 code.toNat ++ be 2 crc.toNat) 1 fails .act (some cmd)) }) ∧
    (s.cfg.repeatCount = 0 → cmd.nextCode = none → exec (.frame id sep counter code crc) s = .next
      { s with
        running := none, seqCtr := if cmd.implicit = true then s.seqCtr + BitVec.ofNat 8 cmd.frameIx else s.seqCtr
        trace := .response ⟨.ok, false, .writeFails fails⟩ :: s.trace }) ∧
    (s.cfg.repeatCount = 0 → ∀ w, cmd.nextCode = some w → exec (.frame id sep counter code crc) s = .next
      { s with
        running := some (.emit ⟨cmd.counter, cmd.implicit, cmd.frameIx + 1, none⟩ fails), path := some (.code w) })

/-- R311 for the CAPTURE and PAYLOAD rows while `LISTEN` runs: a capture of the right length leaves its payload on the path,
any other, and one shorter than `CFG_CAP_LEN` (R312; assumption 20), is discarded with a report; a payload is validated and reported. The data path is the model's choice
(assumptions 4 and 12). -/
def Obligations.CapturesAndPayloadsAreReported : Prop :=
  ∀ (s : State) (ph : LoopPhase), s.running = some (.listen ph) →
    (∀ raw : Bytes,
      let need := s.cfg.stripMsb.toNat + s.cfg.stripLsb.toNat + 72
      (s.cfg.capLen.toNat ≤ raw.length → 8 * raw.length = need → exec (.capture raw) s = .next
        { s with path := some (.payload (BitVec.ofNat 72 (intBe raw >>> s.cfg.stripLsb.toNat))) }) ∧
      (raw.length < s.cfg.capLen.toNat ∨ 8 * raw.length < need → exec (.capture raw) s = .next
        { s with trace := .report ⟨.frameDecodeError, false, .captureError .tooShort⟩ :: s.trace }) ∧
      (s.cfg.capLen.toNat ≤ raw.length → 8 * raw.length > need → exec (.capture raw) s = .next
        { s with trace := .report ⟨.frameDecodeError, false, .captureError .unpackMismatch⟩ :: s.trace })) ∧
    ∀ p : DecodedPacket,
      let c := checksum (window p.id p.separator p.counter p.command)
      exec (.payload p) s = .next
        { s with crcReg := c, trace := .report ⟨.ok, false, .received p (decide (c = p.crc))⟩ :: s.trace }

/-- The model's choice (assumption 4), no rule of the spec: what a word of the data path does when no operation runs. In a
session a code starts the one-frame template with the internal counter, a frame its repetition loop (which is over at
once with `CFG_REPEAT` = 0), a capture the strip, which leaves its payload or discards it; outside a session these three
are refused. A payload needs no session, as `GOODPKT` needs none. -/
def Obligations.WordsOutsideAnOperation : Prop :=
  ∀ (s : State) (i : Instr), s.running = none →
    (∀ w : BitVec 16, encode i = .code w →
      exec i s = .next (if s.inited = true ∧ s.hwFault = false then
        { s with
          crcReg := checksum (window s.devId s.cfg.sep s.seqCtr w)
          path := some (.frame (frameOf s.devId s.cfg.sep s.seqCtr w))
          running := some (.emit ⟨s.seqCtr, true, 1, none⟩ 0) }
        else { s with trace := .response ⟨.refused, false, .none⟩ :: s.trace })) ∧
    (∀ f : Bytes, encode i = .frame f →
      exec i s = .next (if s.inited = true ∧ s.hwFault = false then
          if s.cfg.repeatCount = 0 then { s with trace := .response ⟨.ok, false, .writeFails 0⟩ :: s.trace }
          else { s with running := some (.send f 1 0 .act none) }
        else { s with trace := .response ⟨.refused, false, .none⟩ :: s.trace })) ∧
    (∀ raw : Bytes, i = .capture raw →
      let need := s.cfg.stripMsb.toNat + s.cfg.stripLsb.toNat + 72
      exec i s = .next (if s.inited = true ∧ s.hwFault = false then
          if raw.length < s.cfg.capLen.toNat ∨ 8 * raw.length < need then
            { s with trace := .response ⟨.frameDecodeError, false, .captureError .tooShort⟩ :: s.trace }
          else if need < 8 * raw.length then
            { s with trace := .response ⟨.frameDecodeError, false, .captureError .unpackMismatch⟩ :: s.trace }
          else { s with path := some (.payload (BitVec.ofNat 72 (intBe raw >>> s.cfg.stripLsb.toNat))) }
        else { s with trace := .response ⟨.refused, false, .none⟩ :: s.trace })) ∧
    ∀ p : DecodedPacket, i = .payload p → exec i s = .next
      { s with
        crcReg := packetCrc p
        trace := .response ⟨.ok, false, .received p (decide (packetCrc p = p.crc))⟩ :: s.trace }

/-- The model's choice (assumption 5), no rule of the spec: a word that does not belong to the running operation stops the
machine. -/
def Obligations.MisplacedWordsStop : Prop :=
  ∀ (s : State) (i : Instr) (r : Running), s.running = some r →
    (((∃ w, encode i = .code w) ∨ ∃ f, encode i = .frame f) → (∀ c fails, r ≠ .emit c fails) →
      exec i s = .fault .brokenPath) ∧
    (((∃ raw, i = .capture raw) ∨ ∃ p, i = .payload p) → (∀ ph, r ≠ .listen ph) → exec i s = .fault .brokenPath)

/-! ## Encoding and decoding -/

/-- A few words, written out from the tables of R120, R102, R90 and R94, decode to what they stand for. -/
def Obligations.WrittenOutWordsDecode : Prop :=
  decodeTableWord 8 0x00 = some (.init 0 0 .zero) ∧ decodeTableWord 8 0x21 = some (.crcByte 0) ∧
  decodeTableWord 8 0x41 = some (.trysw .listening false) ∧ decodeTableWord 8 0x02 = none ∧
  decodeTableWord 16 0x020F = some (.codeCooler 15) ∧ decodeTableWord 16 0x03F0 = some .codeWarmerSaturateW8 ∧
  decodeTableWord 16 0x03FF = some (.codeWarmerW8 15) ∧ decodeTableWord 16 0x0700 = none ∧
  decodeTableWord 136 0x533914DD1C49341212345600FF0100CA18 = some (.frame 0x123456 0x00 0xFF 0x0100 0xCA18) ∧
  decodeTableWord 72 0x123456FF000100CA18 = some (.payload ⟨0x123456, 0xFF, 0x00, 0x0100, 0xCA18⟩)

/-- Decoding what the encoder writes gives the instruction back, for every well-formed instruction. -/
def Obligations.DecodeOfEncode : Prop :=
  ∀ i : Instr, i.wellFormed = true → decode (encode i) = .ok i

/-- The data words have one reading each: a frame, a command code or a payload that decodes is what the encoder writes for
the instruction read, and every 72-bit payload decodes (R154: "Every 72-bit value of `P` yields a DecodedPacket"). -/
def Obligations.EncodeOfDecode : Prop :=
  (∀ (f : Bytes) (i : Instr), decode (.frame f) = .ok i → encode i = .frame f ∧ f.length = 17) ∧
  (∀ (w : BitVec 16) (i : Instr), decode (.code w) = .ok i → encode i = .code w ∧ i.wellFormed = true) ∧
  ∀ p : BitVec 72, ∃ q, decode (.payload p) = .ok (.payload q) ∧ encode (.payload q) = .payload p

/-! ## The whole machine -/

/-- The first request the host presents to an idle block, and a word on the data path, are decoded and executed by the next
step: `step` is `exec` of the decoded instruction on the state with the request, or the word, taken. How requests reach
the block, and that a word on the data path is what the next step executes, are the model's choices (assumptions 6 and
4). -/
def Obligations.StepRunsTheDecodedInstruction : Prop :=
  (∀ (s : State) (r : Request) (h : List Request) (i : Instr),
    s.path = none → s.running = none → s.host = r :: h → decode (.request r) = .ok i →
    step s = exec i { s with host := h }) ∧
  (∀ (s : State) (item : Item) (i : Instr), s.path = some item → decode item = .ok i →
    step s = exec i { s with path := none }) ∧
  ∀ s : State, s.path = none → s.running = none → s.host = [] → step s = .next s

/-- R80: one operation at a time. While an operation runs, or a word stands on the data path, a step takes no request;
an idle block takes the one the host presents. The list of requests to come is the model's own (assumption 6). -/
def Obligations.OneOperationAtATime : Prop :=
  ∀ s t : State, step s = .next t →
    ((s.running ≠ none ∨ s.path ≠ none) → t.host = s.host) ∧
    (s.running = none → s.path = none → t.host = s.host.tail)

/-- R75: no event is dropped, merged or repeated: a step only adds events. R7: no step changes the build. -/
def Obligations.EventsAreOnlyAdded : Prop :=
  ∀ s t : State, step s = .next t → t.build = s.build ∧ ∃ new : List Event, t.trace = new ++ s.trace

/-- R40, R24, R26 and R31: inside a session no step changes a configuration register, `dev_id`, `hw_fault` or `inited`; a step that ends the session leaves
every register that R371 gives a value at that value and releases the transceiver. -/
def Obligations.SessionRegistersAreFixed : Prop :=
  ∀ s t : State, step s = .next t → s.inited = true →
    (t.cfg = s.cfg ∧ t.devId = s.devId ∧ t.hwFault = s.hwFault ∧ t.inited = true) ∨
    (t.crcReg = 0xFFFE#16 ∧ t.radioState = .idle ∧ t.hwFault = false ∧ t.inited = false ∧ t.running = none ∧
      t.transceiver = ⟨none, none⟩ ∧ ∃ ρ, t.trace = .response ρ :: .release :: s.trace)

/-- R23 and R224: inside a session a step that changes `seq_ctr` and does not end the session is the last step of a command
operation without an explicit counter, and adds one for each of its frames, modulo 256. -/
def Obligations.SequenceCounterMovesOnlyAtTheEnd : Prop :=
  ∀ s t : State, step s = .next t → s.inited = true → t.inited = true → t.seqCtr ≠ s.seqCtr →
    ∃ c : Command, c.implicit = true ∧ c.nextCode = none ∧ t.running = none ∧ t.seqCtr = s.seqCtr + BitVec.ofNat 8 c.frameIx ∧
      ((∃ fails, s.running = some (.emit c fails)) ∨ ∃ f rep fails ph, s.running = some (.send f rep fails ph (some c)))

/-- R385, its last sentence: `DECODE`, `SWMODE`, `SCALE.BRT`, `SCALE.CT`, `INIT` and `CRC.READ`, and every step of `SEND`'s and
`TRYSW`'s loops that is not an accepted `shutdown_req`, leave `crc_reg` alone. -/
def Obligations.OtherOperationsLeaveTheCrcRegister : Prop :=
  (∀ (s t : State) (i : Instr), exec i s = .next t →
    ((∃ raw strip, i = .decodeOp raw strip) ∨ (∃ d, i = .swmode d) ∨ (∃ b, i = .scaleBrt b) ∨ (∃ m, i = .scaleCt m) ∨
      (∃ id q c, i = .init id q c) ∨ i = .crcRead ∨ (∃ f, i = .send f) ∨ ∃ d fb, i = .trysw d fb) →
    t.crcReg = s.crcReg) ∧
  ∀ s t : State, step s = .next t → s.path = none →
    ∀ ph, ((∃ f rep fails cmd, s.running = some (.send f rep fails ph cmd)) ∨ ∃ d fb n, s.running = some (.trysw d fb n ph)) →
      t.crcReg = s.crcReg ∨ (ph = .sample ∧ s.env.drawShutdown.1 = true)

/-- The reset state meets the invariant, whatever values assumption 1 gives the registers that R50 leaves unspecified: in
`Idle` and with no operation running the invariant does not depend on them. -/
def Obligations.ResetMeetsTheInvariant : Prop := State.reset.Inv

/-- Every step keeps the invariant (with R28, R91, R226, R270, R332). Its clause on the data path is the model's own
(assumption 4). -/
def Obligations.EveryStepKeepsTheInvariant : Prop :=
  ∀ s t : State, s.Inv → step s = .next t → t.Inv

/-- "The block has no `stuck` behaviour: no request makes it stop for good" (93_implementation_defined.md): from every state
that meets the invariant, whatever the host requests and the environment answers, every run goes on. -/
def Obligations.TheBlockNeverStops : Prop :=
  ∀ s : State, s.Inv → ∀ k : Nat, ∃ t, runSteps k s = .next t ∧ t.Inv
end

