-- ==== Sys2Proof/Laws/Bytes.lean ====
section
/-! SUPPORT. Laws of big-endian byte sequences. -/

namespace Sys2Proof.Machine

@[simp] theorem be_length (n v : Nat) : (be n v).length = n := by
  induction n with
  | zero => rfl
  | succ n ih => simp [be, ih]

@[simp] theorem intBe_nil : intBe [] = 0 := rfl

theorem intBe_cons (b : Byte) (bs : Bytes) : intBe (b :: bs) = b.toNat * 2 ^ (8 * bs.length) + intBe bs := rfl

theorem intBe_append (a b : Bytes) : intBe (a ++ b) = intBe a * 2 ^ (8 * b.length) + intBe b := by
  induction a with
  | nil => simp
  | cons x a ih =>
    simp only [List.cons_append, intBe_cons, ih, List.length_append]
    rw [Nat.mul_add, pow_add]; ring

theorem intBe_lt (b : Bytes) : intBe b < 2 ^ (8 * b.length) := by
  induction b with
  | nil => simp
  | cons x b ih =>
    have hx := x.isLt
    rw [intBe_cons, List.length_cons, Nat.mul_succ, pow_add]
    have h : x.toNat * 2 ^ (8 * b.length) ≤ 255 * 2 ^ (8 * b.length) := Nat.mul_le_mul_right _ (by omega)
    omega

theorem intBe_be (n v : Nat) : intBe (be n v) = v % 2 ^ (8 * n) := by
  induction n with
  | zero => simp [be, Nat.mod_one]
  | succ n ih =>
    rw [be, intBe_cons, ih, be_length, BitVec.toNat_ofNat, Nat.shiftRight_eq_div_pow, Nat.mul_succ, pow_add,
      Nat.mod_mul]
    ring

theorem intBe_be_of_lt {n v : Nat} (h : v < 2 ^ (8 * n)) : intBe (be n v) = v := by
  rw [intBe_be, Nat.mod_eq_of_lt h]

theorem be_mod (n v : Nat) : be n (v % 2 ^ (8 * n)) = be n v := by
  suffices h : ∀ m, n ≤ m → be n (v % 2 ^ (8 * m)) = be n v from h n le_rfl
  induction n with
  | zero => intros; rfl
  | succ n ih =>
    intro m hm
    rw [be, be, ih m (by omega)]
    congr 1
    apply BitVec.eq_of_toNat_eq
    simp only [BitVec.toNat_ofNat, Nat.shiftRight_eq_div_pow]
    have h1 : 8 * m = 8 * n + (8 * m - 8 * n) := by omega
    rw [h1, pow_add, Nat.mod_mul_right_div_self]
    refine Nat.mod_mod_of_dvd _ ?_
    have h2 : 8 * m - 8 * n = 8 + (8 * m - 8 * n - 8) := by omega
    rw [h2, pow_add]
    exact Dvd.intro _ rfl

theorem be_intBe (b : Bytes) : be b.length (intBe b) = b := by
  induction b with
  | nil => rfl
  | cons x b ih =>
    have hb := intBe_lt b
    rw [List.length_cons, be]
    congr 1
    · apply BitVec.eq_of_toNat_eq
      rw [intBe_cons, BitVec.toNat_ofNat, Nat.shiftRight_eq_div_pow, Nat.add_comm,
        Nat.add_mul_div_right _ _ (by positivity), Nat.div_eq_of_lt hb, Nat.zero_add]
      exact Nat.mod_eq_of_lt x.isLt
    · rw [← be_mod, intBe_cons, Nat.add_comm, Nat.add_mul_mod_self_right, be_mod, ih]

/-- Two byte sequences of one length are equal when their integers are. -/
theorem intBe_inj {a b : Bytes} (hl : a.length = b.length) (h : intBe a = intBe b) : a = b := by
  rw [← be_intBe a, ← be_intBe b, hl, h]

theorem slice_append_left (a b : Bytes) (n : Nat) (h : a.length = n) : slice (a ++ b) 0 n = a := by
  subst h; simp [slice]

theorem slice_append_right (a b : Bytes) (off n : Nat) (h : a.length ≤ off) :
    slice (a ++ b) off n = slice b (off - a.length) n := by
  simp [slice, List.drop_append, List.drop_of_length_le h]

@[simp] theorem intBe_singleton (x : Byte) : intBe [x] = x.toNat := by simp [intBe_cons]

/-- A field that is the big-endian form of a value reads back as that value. -/
theorem field_be {w : Nat} (n : Nat) (v : BitVec w) (hw : w = 8 * n) (b : Bytes) (off : Nat)
    (h : slice b off n = be n v.toNat) : field w b off n = v := by
  subst hw
  apply BitVec.eq_of_toNat_eq
  rw [field, h, intBe_be_of_lt v.isLt, BitVec.toNat_ofNat, Nat.mod_eq_of_lt v.isLt]

end Sys2Proof.Machine
end

