-- ==== Sys2Proof/Laws/Codec.lean ====
section
/-! SUPPORT. Laws of the frame, the payload and the command code as data: lengths, fields, and how the decoder reads
what the encoder writes. -/

namespace Sys2Proof.Machine

@[simp] theorem preambleBytes_length : preambleBytes.length = 8 := rfl

theorem preambleBytes_eq : preambleBytes = [0x53, 0x39, 0x14, 0xDD, 0x1C, 0x49, 0x34, 0x12] := by decide

/-- The bytes of the preamble read back as `PREAMBLE` (R140). -/
theorem intBe_preambleBytes : intBe preambleBytes = preamble.toNat := by decide

/-- The window at the lengths of R90. -/
theorem window_eq (i : BitVec 24) (sp c : Byte) (k : BitVec 16) :
    window i sp c k = preambleBytes ++ be 3 i.toNat ++ [sp] ++ [c] ++ be 2 k.toNat := rfl

/-- The frame at the lengths of R90. -/
theorem frameBytes_eq (i : BitVec 24) (sp c : Byte) (k q : BitVec 16) :
    frameBytes i sp c k q = window i sp c k ++ be 2 q.toNat := rfl

/-- The reading of a frame at the offsets of R90. -/
theorem decodeFrame_eq (f : Bytes) : decodeFrame f =
    if f.length = 17 ∧ f.take 8 = preambleBytes then
      .ok (.frame (field 24 f 8 3) (field 8 f 11 1) (field 8 f 12 1) (field 16 f 13 2) (field 16 f 15 2))
    else .error .notAFrame := rfl

@[simp] theorem window_length (i : BitVec 24) (sp c : Byte) (k : BitVec 16) : (window i sp c k).length = 15 := by
  simp [window_eq]

@[simp] theorem frameBytes_length (i : BitVec 24) (sp c : Byte) (k q : BitVec 16) : (frameBytes i sp c k q).length = 17 := by
  simp [frameBytes_eq]

theorem frameOf_eq_frameBytes (i : BitVec 24) (sp c : Byte) (k : BitVec 16) :
    frameOf i sp c k = frameBytes i sp c k (checksum (window i sp c k)) := rfl

@[simp] theorem frameOf_length (i : BitVec 24) (sp c : Byte) (k : BitVec 16) : (frameOf i sp c k).length = 17 :=
  frameBytes_length i sp c k _

/-- The window of a frame is its first 15 bytes (R92). -/
theorem frameOf_take (i : BitVec 24) (sp c : Byte) (k : BitVec 16) : (frameOf i sp c k).take 15 = window i sp c k :=
  List.take_left' (window_length i sp c k)

/-- The decoder reads the fields that the encoder wrote into a frame. -/
theorem decodeFrame_frameBytes (i : BitVec 24) (sp c : Byte) (k q : BitVec 16) :
    decodeFrame (frameBytes i sp c k q) = .ok (.frame i sp c k q) := by
  have hp : (frameBytes i sp c k q).take 8 = preambleBytes := by
    simp [frameBytes_eq, window_eq, preambleBytes_eq]
  have h1 : field 24 (frameBytes i sp c k q) 8 3 = i :=
    field_be 3 i rfl _ _ (by simp [frameBytes_eq, window_eq, preambleBytes_eq, slice])
  have h2 : field 8 (frameBytes i sp c k q) 11 1 = sp :=
    field_be 1 sp rfl _ _ (by simp [frameBytes_eq, window_eq, preambleBytes_eq, slice, be])
  have h3 : field 8 (frameBytes i sp c k q) 12 1 = c :=
    field_be 1 c rfl _ _ (by simp [frameBytes_eq, window_eq, preambleBytes_eq, slice, be])
  have h4 : field 16 (frameBytes i sp c k q) 13 2 = k :=
    field_be 2 k rfl _ _ (by simp [frameBytes_eq, window_eq, preambleBytes_eq, slice, List.drop_append, List.drop_of_length_le])
  have h5 : field 16 (frameBytes i sp c k q) 15 2 = q :=
    field_be 2 q rfl _ _ (by simp [frameBytes_eq, slice])
  rw [decodeFrame_eq, hp, h1, h2, h3, h4, h5, frameBytes_length, if_pos ⟨rfl, rfl⟩]

end Sys2Proof.Machine
end

