-- ==== Sys2Proof/Laws/State.lean ====
section
/-! SUPPORT. One lemma for each field of State and each named update, true by rfl, so that no later proof unfolds a
record update. -/

namespace Sys2Proof.Machine

section putCrcFields
variable (s : State) (v : BitVec 16)
@[simp] theorem State.putCrc_crcReg : (s.putCrc v).crcReg = v := rfl
@[simp] theorem State.putCrc_seqCtr : (s.putCrc v).seqCtr = s.seqCtr := rfl
@[simp] theorem State.putCrc_devId : (s.putCrc v).devId = s.devId := rfl
@[simp] theorem State.putCrc_radioState : (s.putCrc v).radioState = s.radioState := rfl
@[simp] theorem State.putCrc_hwFault : (s.putCrc v).hwFault = s.hwFault := rfl
@[simp] theorem State.putCrc_inited : (s.putCrc v).inited = s.inited := rfl
@[simp] theorem State.putCrc_cfg : (s.putCrc v).cfg = s.cfg := rfl
@[simp] theorem State.putCrc_running : (s.putCrc v).running = s.running := rfl
@[simp] theorem State.putCrc_path : (s.putCrc v).path = s.path := rfl
@[simp] theorem State.putCrc_transceiver : (s.putCrc v).transceiver = s.transceiver := rfl
@[simp] theorem State.putCrc_build : (s.putCrc v).build = s.build := rfl
@[simp] theorem State.putCrc_env : (s.putCrc v).env = s.env := rfl
@[simp] theorem State.putCrc_host : (s.putCrc v).host = s.host := rfl
@[simp] theorem State.putCrc_trace : (s.putCrc v).trace = s.trace := rfl
end putCrcFields

section putSeqFields
variable (s : State) (v : Byte)
@[simp] theorem State.putSeq_crcReg : (s.putSeq v).crcReg = s.crcReg := rfl
@[simp] theorem State.putSeq_seqCtr : (s.putSeq v).seqCtr = v := rfl
@[simp] theorem State.putSeq_devId : (s.putSeq v).devId = s.devId := rfl
@[simp] theorem State.putSeq_radioState : (s.putSeq v).radioState = s.radioState := rfl
@[simp] theorem State.putSeq_hwFault : (s.putSeq v).hwFault = s.hwFault := rfl
@[simp] theorem State.putSeq_inited : (s.putSeq v).inited = s.inited := rfl
@[simp] theorem State.putSeq_cfg : (s.putSeq v).cfg = s.cfg := rfl
@[simp] theorem State.putSeq_running : (s.putSeq v).running = s.running := rfl
@[simp] theorem State.putSeq_path : (s.putSeq v).path = s.path := rfl
@[simp] theorem State.putSeq_transceiver : (s.putSeq v).transceiver = s.transceiver := rfl
@[simp] theorem State.putSeq_build : (s.putSeq v).build = s.build := rfl
@[simp] theorem State.putSeq_env : (s.putSeq v).env = s.env := rfl
@[simp] theorem State.putSeq_host : (s.putSeq v).host = s.host := rfl
@[simp] theorem State.putSeq_trace : (s.putSeq v).trace = s.trace := rfl
end putSeqFields

section putRadioFields
variable (s : State) (v : RadioState)
@[simp] theorem State.putRadio_crcReg : (s.putRadio v).crcReg = s.crcReg := rfl
@[simp] theorem State.putRadio_seqCtr : (s.putRadio v).seqCtr = s.seqCtr := rfl
@[simp] theorem State.putRadio_devId : (s.putRadio v).devId = s.devId := rfl
@[simp] theorem State.putRadio_radioState : (s.putRadio v).radioState = v := rfl
@[simp] theorem State.putRadio_hwFault : (s.putRadio v).hwFault = s.hwFault := rfl
@[simp] theorem State.putRadio_inited : (s.putRadio v).inited = s.inited := rfl
@[simp] theorem State.putRadio_cfg : (s.putRadio v).cfg = s.cfg := rfl
@[simp] theorem State.putRadio_running : (s.putRadio v).running = s.running := rfl
@[simp] theorem State.putRadio_path : (s.putRadio v).path = s.path := rfl
@[simp] theorem State.putRadio_transceiver : (s.putRadio v).transceiver = s.transceiver := rfl
@[simp] theorem State.putRadio_build : (s.putRadio v).build = s.build := rfl
@[simp] theorem State.putRadio_env : (s.putRadio v).env = s.env := rfl
@[simp] theorem State.putRadio_host : (s.putRadio v).host = s.host := rfl
@[simp] theorem State.putRadio_trace : (s.putRadio v).trace = s.trace := rfl
end putRadioFields

section putFaultFields
variable (s : State)
@[simp] theorem State.putFault_crcReg : s.putFault.crcReg = s.crcReg := rfl
@[simp] theorem State.putFault_seqCtr : s.putFault.seqCtr = s.seqCtr := rfl
@[simp] theorem State.putFault_devId : s.putFault.devId = s.devId := rfl
@[simp] theorem State.putFault_radioState : s.putFault.radioState = s.radioState := rfl
@[simp] theorem State.putFault_hwFault : s.putFault.hwFault = true := rfl
@[simp] theorem State.putFault_inited : s.putFault.inited = s.inited := rfl
@[simp] theorem State.putFault_cfg : s.putFault.cfg = s.cfg := rfl
@[simp] theorem State.putFault_running : s.putFault.running = s.running := rfl
@[simp] theorem State.putFault_path : s.putFault.path = s.path := rfl
@[simp] theorem State.putFault_transceiver : s.putFault.transceiver = s.transceiver := rfl
@[simp] theorem State.putFault_build : s.putFault.build = s.build := rfl
@[simp] theorem State.putFault_env : s.putFault.env = s.env := rfl
@[simp] theorem State.putFault_host : s.putFault.host = s.host := rfl
@[simp] theorem State.putFault_trace : s.putFault.trace = s.trace := rfl
end putFaultFields

section openSessionFields
variable (s : State) (i : BitVec 24) (q : Byte) (c : SessionConfig)
@[simp] theorem State.openSession_crcReg : (s.openSession i q c).crcReg = s.crcReg := rfl
@[simp] theorem State.openSession_seqCtr : (s.openSession i q c).seqCtr = q := rfl
@[simp] theorem State.openSession_devId : (s.openSession i q c).devId = i := rfl
@[simp] theorem State.openSession_radioState : (s.openSession i q c).radioState = s.radioState := rfl
@[simp] theorem State.openSession_hwFault : (s.openSession i q c).hwFault = s.hwFault := rfl
@[simp] theorem State.openSession_inited : (s.openSession i q c).inited = true := rfl
@[simp] theorem State.openSession_cfg : (s.openSession i q c).cfg = c := rfl
@[simp] theorem State.openSession_running : (s.openSession i q c).running = s.running := rfl
@[simp] theorem State.openSession_path : (s.openSession i q c).path = s.path := rfl
@[simp] theorem State.openSession_transceiver : (s.openSession i q c).transceiver = s.transceiver := rfl
@[simp] theorem State.openSession_build : (s.openSession i q c).build = s.build := rfl
@[simp] theorem State.openSession_env : (s.openSession i q c).env = s.env := rfl
@[simp] theorem State.openSession_host : (s.openSession i q c).host = s.host := rfl
@[simp] theorem State.openSession_trace : (s.openSession i q c).trace = s.trace := rfl
end openSessionFields

section putRunningFields
variable (s : State) (v : Option Running)
@[simp] theorem State.putRunning_crcReg : (s.putRunning v).crcReg = s.crcReg := rfl
@[simp] theorem State.putRunning_seqCtr : (s.putRunning v).seqCtr = s.seqCtr := rfl
@[simp] theorem State.putRunning_devId : (s.putRunning v).devId = s.devId := rfl
@[simp] theorem State.putRunning_radioState : (s.putRunning v).radioState = s.radioState := rfl
@[simp] theorem State.putRunning_hwFault : (s.putRunning v).hwFault = s.hwFault := rfl
@[simp] theorem State.putRunning_inited : (s.putRunning v).inited = s.inited := rfl
@[simp] theorem State.putRunning_cfg : (s.putRunning v).cfg = s.cfg := rfl
@[simp] theorem State.putRunning_running : (s.putRunning v).running = v := rfl
@[simp] theorem State.putRunning_path : (s.putRunning v).path = s.path := rfl
@[simp] theorem State.putRunning_transceiver : (s.putRunning v).transceiver = s.transceiver := rfl
@[simp] theorem State.putRunning_build : (s.putRunning v).build = s.build := rfl
@[simp] theorem State.putRunning_env : (s.putRunning v).env = s.env := rfl
@[simp] theorem State.putRunning_host : (s.putRunning v).host = s.host := rfl
@[simp] theorem State.putRunning_trace : (s.putRunning v).trace = s.trace := rfl
end putRunningFields

section putPathFields
variable (s : State) (v : Option Item)
@[simp] theorem State.putPath_crcReg : (s.putPath v).crcReg = s.crcReg := rfl
@[simp] theorem State.putPath_seqCtr : (s.putPath v).seqCtr = s.seqCtr := rfl
@[simp] theorem State.putPath_devId : (s.putPath v).devId = s.devId := rfl
@[simp] theorem State.putPath_radioState : (s.putPath v).radioState = s.radioState := rfl
@[simp] theorem State.putPath_hwFault : (s.putPath v).hwFault = s.hwFault := rfl
@[simp] theorem State.putPath_inited : (s.putPath v).inited = s.inited := rfl
@[simp] theorem State.putPath_cfg : (s.putPath v).cfg = s.cfg := rfl
@[simp] theorem State.putPath_running : (s.putPath v).running = s.running := rfl
@[simp] theorem State.putPath_path : (s.putPath v).path = v := rfl
@[simp] theorem State.putPath_transceiver : (s.putPath v).transceiver = s.transceiver := rfl
@[simp] theorem State.putPath_build : (s.putPath v).build = s.build := rfl
@[simp] theorem State.putPath_env : (s.putPath v).env = s.env := rfl
@[simp] theorem State.putPath_host : (s.putPath v).host = s.host := rfl
@[simp] theorem State.putPath_trace : (s.putPath v).trace = s.trace := rfl
end putPathFields

section putEnvFields
variable (s : State) (v : Env)
@[simp] theorem State.putEnv_crcReg : (s.putEnv v).crcReg = s.crcReg := rfl
@[simp] theorem State.putEnv_seqCtr : (s.putEnv v).seqCtr = s.seqCtr := rfl
@[simp] theorem State.putEnv_devId : (s.putEnv v).devId = s.devId := rfl
@[simp] theorem State.putEnv_radioState : (s.putEnv v).radioState = s.radioState := rfl
@[simp] theorem State.putEnv_hwFault : (s.putEnv v).hwFault = s.hwFault := rfl
@[simp] theorem State.putEnv_inited : (s.putEnv v).inited = s.inited := rfl
@[simp] theorem State.putEnv_cfg : (s.putEnv v).cfg = s.cfg := rfl
@[simp] theorem State.putEnv_running : (s.putEnv v).running = s.running := rfl
@[simp] theorem State.putEnv_path : (s.putEnv v).path = s.path := rfl
@[simp] theorem State.putEnv_transceiver : (s.putEnv v).transceiver = s.transceiver := rfl
@[simp] theorem State.putEnv_build : (s.putEnv v).build = s.build := rfl
@[simp] theorem State.putEnv_env : (s.putEnv v).env = v := rfl
@[simp] theorem State.putEnv_host : (s.putEnv v).host = s.host := rfl
@[simp] theorem State.putEnv_trace : (s.putEnv v).trace = s.trace := rfl
end putEnvFields

section putHostFields
variable (s : State) (v : List Request)
@[simp] theorem State.putHost_crcReg : (s.putHost v).crcReg = s.crcReg := rfl
@[simp] theorem State.putHost_seqCtr : (s.putHost v).seqCtr = s.seqCtr := rfl
@[simp] theorem State.putHost_devId : (s.putHost v).devId = s.devId := rfl
@[simp] theorem State.putHost_radioState : (s.putHost v).radioState = s.radioState := rfl
@[simp] theorem State.putHost_hwFault : (s.putHost v).hwFault = s.hwFault := rfl
@[simp] theorem State.putHost_inited : (s.putHost v).inited = s.inited := rfl
@[simp] theorem State.putHost_cfg : (s.putHost v).cfg = s.cfg := rfl
@[simp] theorem State.putHost_running : (s.putHost v).running = s.running := rfl
@[simp] theorem State.putHost_path : (s.putHost v).path = s.path := rfl
@[simp] theorem State.putHost_transceiver : (s.putHost v).transceiver = s.transceiver := rfl
@[simp] theorem State.putHost_build : (s.putHost v).build = s.build := rfl
@[simp] theorem State.putHost_env : (s.putHost v).env = s.env := rfl
@[simp] theorem State.putHost_host : (s.putHost v).host = v := rfl
@[simp] theorem State.putHost_trace : (s.putHost v).trace = s.trace := rfl
end putHostFields

section logFields
variable (s : State) (e : Event)
@[simp] theorem State.log_crcReg : (s.log e).crcReg = s.crcReg := rfl
@[simp] theorem State.log_seqCtr : (s.log e).seqCtr = s.seqCtr := rfl
@[simp] theorem State.log_devId : (s.log e).devId = s.devId := rfl
@[simp] theorem State.log_radioState : (s.log e).radioState = s.radioState := rfl
@[simp] theorem State.log_hwFault : (s.log e).hwFault = s.hwFault := rfl
@[simp] theorem State.log_inited : (s.log e).inited = s.inited := rfl
@[simp] theorem State.log_cfg : (s.log e).cfg = s.cfg := rfl
@[simp] theorem State.log_running : (s.log e).running = s.running := rfl
@[simp] theorem State.log_path : (s.log e).path = s.path := rfl
@[simp] theorem State.log_transceiver : (s.log e).transceiver = s.transceiver := rfl
@[simp] theorem State.log_build : (s.log e).build = s.build := rfl
@[simp] theorem State.log_env : (s.log e).env = s.env := rfl
@[simp] theorem State.log_host : (s.log e).host = s.host := rfl
@[simp] theorem State.log_trace : (s.log e).trace = e :: s.trace := rfl
end logFields

section putTransceiverFields
variable (s : State) (v : Transceiver)
@[simp] theorem State.putTransceiver_crcReg : (s.putTransceiver v).crcReg = s.crcReg := rfl
@[simp] theorem State.putTransceiver_seqCtr : (s.putTransceiver v).seqCtr = s.seqCtr := rfl
@[simp] theorem State.putTransceiver_devId : (s.putTransceiver v).devId = s.devId := rfl
@[simp] theorem State.putTransceiver_radioState : (s.putTransceiver v).radioState = s.radioState := rfl
@[simp] theorem State.putTransceiver_hwFault : (s.putTransceiver v).hwFault = s.hwFault := rfl
@[simp] theorem State.putTransceiver_inited : (s.putTransceiver v).inited = s.inited := rfl
@[simp] theorem State.putTransceiver_cfg : (s.putTransceiver v).cfg = s.cfg := rfl
@[simp] theorem State.putTransceiver_running : (s.putTransceiver v).running = s.running := rfl
@[simp] theorem State.putTransceiver_path : (s.putTransceiver v).path = s.path := rfl
@[simp] theorem State.putTransceiver_transceiver : (s.putTransceiver v).transceiver = v := rfl
@[simp] theorem State.putTransceiver_build : (s.putTransceiver v).build = s.build := rfl
@[simp] theorem State.putTransceiver_env : (s.putTransceiver v).env = s.env := rfl
@[simp] theorem State.putTransceiver_host : (s.putTransceiver v).host = s.host := rfl
@[simp] theorem State.putTransceiver_trace : (s.putTransceiver v).trace = s.trace := rfl
end putTransceiverFields

section respondFields
variable (s : State) (r : Response)
@[simp] theorem State.respond_crcReg : (s.respond r).crcReg = s.crcReg := rfl
@[simp] theorem State.respond_seqCtr : (s.respond r).seqCtr = s.seqCtr := rfl
@[simp] theorem State.respond_devId : (s.respond r).devId = s.devId := rfl
@[simp] theorem State.respond_radioState : (s.respond r).radioState = s.radioState := rfl
@[simp] theorem State.respond_hwFault : (s.respond r).hwFault = s.hwFault := rfl
@[simp] theorem State.respond_inited : (s.respond r).inited = s.inited := rfl
@[simp] theorem State.respond_cfg : (s.respond r).cfg = s.cfg := rfl
@[simp] theorem State.respond_running : (s.respond r).running = s.running := rfl
@[simp] theorem State.respond_path : (s.respond r).path = s.path := rfl
@[simp] theorem State.respond_transceiver : (s.respond r).transceiver = s.transceiver := rfl
@[simp] theorem State.respond_build : (s.respond r).build = s.build := rfl
@[simp] theorem State.respond_env : (s.respond r).env = s.env := rfl
@[simp] theorem State.respond_host : (s.respond r).host = s.host := rfl
@[simp] theorem State.respond_trace : (s.respond r).trace = .response r :: s.trace := rfl
end respondFields

section finishFields
variable (s : State) (r : Response)
@[simp] theorem State.finish_crcReg : (s.finish r).crcReg = s.crcReg := rfl
@[simp] theorem State.finish_seqCtr : (s.finish r).seqCtr = s.seqCtr := rfl
@[simp] theorem State.finish_devId : (s.finish r).devId = s.devId := rfl
@[simp] theorem State.finish_radioState : (s.finish r).radioState = s.radioState := rfl
@[simp] theorem State.finish_hwFault : (s.finish r).hwFault = s.hwFault := rfl
@[simp] theorem State.finish_inited : (s.finish r).inited = s.inited := rfl
@[simp] theorem State.finish_cfg : (s.finish r).cfg = s.cfg := rfl
@[simp] theorem State.finish_running : (s.finish r).running = none := rfl
@[simp] theorem State.finish_path : (s.finish r).path = s.path := rfl
@[simp] theorem State.finish_transceiver : (s.finish r).transceiver = s.transceiver := rfl
@[simp] theorem State.finish_build : (s.finish r).build = s.build := rfl
@[simp] theorem State.finish_env : (s.finish r).env = s.env := rfl
@[simp] theorem State.finish_host : (s.finish r).host = s.host := rfl
@[simp] theorem State.finish_trace : (s.finish r).trace = .response r :: s.trace := rfl
end finishFields

section resetBlockFields
variable (s : State)
@[simp] theorem State.resetBlock_crcReg : s.resetBlock.crcReg = resetCrc := rfl
@[simp] theorem State.resetBlock_seqCtr : s.resetBlock.seqCtr = resetSeq := rfl
@[simp] theorem State.resetBlock_devId : s.resetBlock.devId = resetDev := rfl
@[simp] theorem State.resetBlock_radioState : s.resetBlock.radioState = .idle := rfl
@[simp] theorem State.resetBlock_hwFault : s.resetBlock.hwFault = false := rfl
@[simp] theorem State.resetBlock_inited : s.resetBlock.inited = false := rfl
@[simp] theorem State.resetBlock_cfg : s.resetBlock.cfg = resetCfg := rfl
@[simp] theorem State.resetBlock_running : s.resetBlock.running = none := rfl
@[simp] theorem State.resetBlock_path : s.resetBlock.path = none := rfl
@[simp] theorem State.resetBlock_transceiver : s.resetBlock.transceiver = s.transceiver := rfl
@[simp] theorem State.resetBlock_build : s.resetBlock.build = s.build := rfl
@[simp] theorem State.resetBlock_env : s.resetBlock.env = s.env := rfl
@[simp] theorem State.resetBlock_host : s.resetBlock.host = s.host := rfl
@[simp] theorem State.resetBlock_trace : s.resetBlock.trace = s.trace := rfl
end resetBlockFields

end Sys2Proof.Machine
end

