-- ==== Sys2Proof/Laws/Ops.lean ====
section
/-! SUPPORT. One lemma for each shared operation over the state, saying all it does. Each is the operation written out as a
record update. -/

namespace Sys2Proof.Machine

/-! The environment: an input takes the next answer of its script. -/

theorem drawConnected_scripted {e : Env} {a : Bool} {r : List Bool} (h : e.connected = a :: r) :
    e.drawConnected = (a, { e with connected := r }) := by simp [Env.drawConnected, h]

theorem drawInflight_scripted {e : Env} {a : Bool} {r : List Bool} (h : e.txInflight = a :: r) :
    e.drawInflight = (a, { e with txInflight := r }) := by simp [Env.drawInflight, h]

theorem drawWrite_scripted {e : Env} {a : Bool} {r : List Bool} (h : e.writeOk = a :: r) :
    e.drawWrite = (a, { e with writeOk := r }) := by simp [Env.drawWrite, h]

theorem drawPoll_scripted {e : Env} {a : Option (Bytes × Nat)} {r : List (Option (Bytes × Nat))} (h : e.polls = a :: r) :
    e.drawPoll = (a, { e with polls := r }) := by simp [Env.drawPoll, h]

theorem drawShutdown_scripted {e : Env} {a : Bool} {r : List Bool} (h : e.shutdown = a :: r) :
    e.drawShutdown = (a, { e with shutdown := r }) := by simp [Env.drawShutdown, h]

/-! The operations, written out. -/

theorem sampleInflight_eq (s : State) : sampleInflight s = (s.env.drawInflight.1, { s with env := s.env.drawInflight.2 }) := rfl

theorem sampleShutdown_eq (s : State) : sampleShutdown s = (s.env.drawShutdown.1, { s with env := s.env.drawShutdown.2 }) := rfl

theorem drvIsConnected_eq (s : State) : drvIsConnected s =
    (s.env.drawConnected.1, { s with env := s.env.drawConnected.2, trace := .isConnected :: s.trace }) := rfl

theorem drvWrite_eq (f : Bytes) (s : State) : drvWrite f s =
    (s.env.drawWrite.1, { s with env := s.env.drawWrite.2, trace := .writeBlocking f :: s.trace }) := rfl

theorem drvPoll_eq (s : State) : drvPoll s =
    (s.env.drawPoll.1, { s with env := s.env.drawPoll.2, trace := .pollAvailable :: s.trace }) := rfl

theorem waitMs_eq (ms : Nat) (s : State) : waitMs ms s = { s with trace := .wait ms :: s.trace } := rfl

theorem refuse_eq (s : State) : refuse s = { s with trace := .response ⟨.refused, false, .none⟩ :: s.trace } := rfl

theorem raiseError_eq (k : Status) (r : Result) (s : State) :
    raiseError k r s = { s with trace := .response ⟨k, false, r⟩ :: s.trace } := rfl

theorem finish_eq (r : Response) (s : State) : s.finish r = { s with running := none, trace := .response r :: s.trace } := rfl

theorem switchTo_eq (d : Direction) (s : State) : switchTo d s =
    { s with
      radioState := radioOf d
      transceiver := ⟨some ⟨s.cfg.channel, s.cfg.power, s.cfg.dataRate, payloadSize d s.cfg, s.cfg.crcMode⟩,
        some (d, pipeOf d s.cfg)⟩
      trace := .openRadio d (pipeOf d s.cfg) ::
        .configure s.cfg.channel s.cfg.power s.cfg.dataRate (payloadSize d s.cfg) s.cfg.crcMode :: s.trace } := rfl

theorem shutDown_eq (s : State) : shutDown s =
    { State.reset with build := s.build, env := s.env, host := s.host, trace := .release :: s.trace } := rfl

theorem abort_eq (s : State) : abort s =
    { State.reset with
      build := s.build, env := s.env, host := s.host
      trace := .response ⟨.ok, true, .none⟩ :: .release :: s.trace } := rfl

theorem buildFrame_eq (code : BitVec 16) (c : Byte) (s : State) : buildFrame code c s =
    { s with
      crcReg := checksum (window s.devId s.cfg.sep c code)
      path := some (.frame (frameOf s.devId s.cfg.sep c code)) } := rfl

theorem ready_iff (s : State) : ready s = true ↔ s.inited = true ∧ s.hwFault = false := by
  simp [ready]

theorem startCommand_ready {s : State} (h : ready s = true) (code : BitVec 16) (next : Option (BitVec 16)) (ctr : Option Byte) :
    startCommand code next ctr s =
      { s with
        running := some (.emit ⟨ctr.getD s.seqCtr, ctr.isNone, 1, next⟩ 0), path := some (.code code) } := by
  rw [startCommand, if_pos h]; rfl

/-- All that an attempt to switch can do: it is made, or it is busy and only the sample is taken. -/
theorem attemptSwitch_cases (d : Direction) (s : State) :
    (attemptSwitch d s = (false, { s with env := s.env.drawInflight.2 }) ∧
      d = .transmitting ∧ s.radioState = .listening ∧ s.env.drawInflight.1 = true) ∨
    (attemptSwitch d s = (true, switchTo d { s with env := s.env.drawInflight.2 }) ∧
      ¬(d = .transmitting ∧ s.radioState = .listening ∧ s.env.drawInflight.1 = true)) := by
  unfold attemptSwitch
  split
  · next h =>
    left
    refine ⟨rfl, ?_⟩
    simpa [receiverBusy, sampleInflight_eq, and_assoc] using h
  · next h =>
    right
    refine ⟨rfl, ?_⟩
    simpa [receiverBusy, sampleInflight_eq, and_assoc] using h

/-- All that the end of one frame of a command operation can do. -/
theorem commandSent_cases (c : Command) (fails : Nat) (s : State) :
    (∃ w, c.nextCode = some w ∧ commandSent c fails s =
      { s with running := some (.emit ⟨c.counter, c.implicit, c.frameIx + 1, none⟩ fails), path := some (.code w) }) ∨
    (c.nextCode = none ∧ commandSent c fails s =
      { s with
        seqCtr := if c.implicit then s.seqCtr + BitVec.ofNat 8 c.frameIx else s.seqCtr
        running := none, trace := .response ⟨.ok, false, .writeFails fails⟩ :: s.trace }) := by
  unfold commandSent
  split
  · next w h => exact .inl ⟨w, h, rfl⟩
  · next h => exact .inr ⟨h, rfl⟩

/-- A report goes into `LISTEN`'s stream or is the response. -/
theorem deliver_cases (r : Response) (s : State) :
    (∃ ph, s.running = some (.listen ph) ∧ deliver r s = { s with trace := .report r :: s.trace }) ∨
    ((∀ ph, s.running ≠ some (.listen ph)) ∧ deliver r s = { s with trace := .response r :: s.trace }) := by
  unfold deliver
  split
  · next ph h => exact .inl ⟨ph, h, rfl⟩
  · next h => exact .inr ⟨fun ph hp => h ph hp, rfl⟩

/-- The strip of a capture at `PAYLOAD_BITS` = 72 (R150, R151). -/
theorem stripCapture_eq (m l : Nat) (raw : Bytes) : stripCapture m l raw =
    if 8 * raw.length < m + l + 72 then .error .tooShort
    else if 8 * raw.length > m + l + 72 then .error .unpackMismatch
    else .ok (BitVec.ofNat 72 (intBe raw >>> l)) := rfl

/-- The strip of a capture succeeds exactly when 72 bits are left. -/
theorem stripCapture_cases (m l : Nat) (raw : Bytes) :
    (8 * raw.length < m + l + 72 ∧ stripCapture m l raw = .error .tooShort) ∨
    (8 * raw.length > m + l + 72 ∧ stripCapture m l raw = .error .unpackMismatch) ∨
    (8 * raw.length = m + l + 72 ∧ stripCapture m l raw = .ok (BitVec.ofNat 72 (intBe raw >>> l))) := by
  rw [stripCapture_eq]
  rcases Nat.lt_trichotomy (8 * raw.length) (m + l + 72) with h | h | h
  · left; exact ⟨h, by rw [if_pos h]⟩
  · right; right; exact ⟨h, by rw [if_neg (by omega), if_neg (by omega)]⟩
  · right; left; exact ⟨h, by rw [if_neg (by omega), if_pos h]⟩

end Sys2Proof.Machine
end

