-- ==== Sys2Proof/Laws/Step.lean ====
section
/-! SUPPORT. What a step can be, said once: the word on the data path, a request of the host, or a step of the running
operation. -/

namespace Sys2Proof.Machine

theorem step_of_path {s : State} {item : Item} {i : Instr} (hp : s.path = some item) (hd : decode item = .ok i) :
    step s = exec i (s.putPath none) := by
  simp [step, fetch, afterFetch, hp, hd]

theorem step_of_running {s : State} {r : Running} (hp : s.path = none) (hr : s.running = some r) :
    step s = continueRun r s := by
  simp [step, fetch, idleStep, hp, hr]

theorem step_of_request {s : State} {r : Request} {h : List Request} {i : Instr} (hp : s.path = none)
    (hr : s.running = none) (hh : s.host = r :: h) (hd : decode (.request r) = .ok i) :
    step s = exec i (s.putHost h) := by
  simp [step, fetch, afterFetch, hp, hr, hh, hd]

theorem step_of_nothing {s : State} (hp : s.path = none) (hr : s.running = none) (hh : s.host = []) : step s = .next s := by
  simp [step, fetch, idleStep, hp, hr, hh]

/-- All that a step which leads to a next state can be. -/
theorem step_cases {s t : State} (h : step s = .next t) :
    (∃ item i, s.path = some item ∧ decode item = .ok i ∧ exec i (s.putPath none) = .next t) ∨
    (∃ r, s.path = some (.request r) ∧ t = refuse (s.putPath none)) ∨
    (∃ r, s.path = none ∧ s.running = some r ∧ continueRun r s = .next t) ∨
    (∃ r rest i, s.path = none ∧ s.running = none ∧ s.host = r :: rest ∧ decode (.request r) = .ok i ∧
      exec i (s.putHost rest) = .next t) ∨
    (∃ r rest, s.path = none ∧ s.running = none ∧ s.host = r :: rest ∧ t = refuse (s.putHost rest)) ∨
    (s.path = none ∧ s.running = none ∧ s.host = [] ∧ t = s) := by
  cases hp : s.path with
  | some item =>
    cases hd : decode item with
    | ok i =>
      rw [step_of_path hp hd] at h
      exact .inl ⟨item, i, rfl, hd, h⟩
    | error e =>
      simp only [step, fetch, afterFetch, hp, hd] at h
      cases item with
      | request r =>
        simp only [rejectItem, Host.Outcome.next.injEq] at h
        exact .inr (.inl ⟨r, rfl, h.symm⟩)
      | code w => simp [rejectItem] at h
      | frame f => simp [rejectItem] at h
      | payload p => simp [rejectItem] at h
      | capture raw => simp [rejectItem] at h
  | none =>
    cases hr : s.running with
    | some r =>
      rw [step_of_running hp hr] at h
      exact .inr (.inr (.inl ⟨r, rfl, rfl, h⟩))
    | none =>
      cases hh : s.host with
      | nil =>
        rw [step_of_nothing hp hr hh] at h
        simp only [Host.Outcome.next.injEq] at h
        exact .inr (.inr (.inr (.inr (.inr ⟨rfl, rfl, rfl, h.symm⟩))))
      | cons r rest =>
        cases hd : decode (.request r) with
        | ok i =>
          rw [step_of_request hp hr hh hd] at h
          exact .inr (.inr (.inr (.inl ⟨r, rest, i, rfl, rfl, rfl, hd, h⟩)))
        | error e =>
          simp only [step, fetch, afterFetch, hp, hr, hh, List.head?_cons, Option.map_some, hd, rejectItem,
            List.tail_cons, Host.Outcome.next.injEq] at h
          exact .inr (.inr (.inr (.inr (.inl ⟨r, rest, rfl, rfl, rfl, h.symm⟩))))

end Sys2Proof.Machine
end

