-- ==== Sys2Proof/Laws/Loops.lean ====
section
/-! SUPPORT. The loops of the multi-step operations, one lemma for each phase, saying all that the phase can do. -/

namespace Sys2Proof.Machine

/-! The repetition loop (R225). -/

theorem beginSend_zero {s : State} (h : s.cfg.repeatCount = 0) (f : Bytes) (fails : Nat) (cmd : Option Command) :
    beginSend f fails cmd s = sendDone fails cmd s := if_pos h

theorem beginSend_pos {s : State} (h : s.cfg.repeatCount ≠ 0) (f : Bytes) (fails : Nat) (cmd : Option Command) :
    beginSend f fails cmd s = { s with running := some (.send f 1 fails .act cmd) } := if_neg h

theorem sendStep_act (f : Bytes) (rep fails : Nat) (cmd : Option Command) (s : State) :
    sendStep f rep fails .act cmd s =
      { s with
        env := s.env.drawWrite.2, trace := .writeBlocking f :: s.trace
        running := some (.send f rep (countFail s.env.drawWrite.1 fails) .wait cmd) } := rfl

theorem sendStep_wait (f : Bytes) (rep fails : Nat) (cmd : Option Command) (s : State) :
    sendStep f rep fails .wait cmd s =
      { s with trace := .wait s.cfg.delayMs.toNat :: s.trace, running := some (.send f rep fails .sample cmd) } := rfl

/-- The sample ends the session, starts the next repetition, or ends the loop. -/
theorem sendStep_sample_cases (f : Bytes) (rep fails : Nat) (cmd : Option Command) (s : State) :
    (s.env.drawShutdown.1 = true ∧
      sendStep f rep fails .sample cmd s = abort { s with env := s.env.drawShutdown.2 }) ∨
    (s.env.drawShutdown.1 = false ∧ rep < s.cfg.repeatCount.toNat ∧ sendStep f rep fails .sample cmd s =
      { s with env := s.env.drawShutdown.2, running := some (.send f (rep + 1) fails .act cmd) }) ∨
    (s.env.drawShutdown.1 = false ∧ s.cfg.repeatCount.toNat ≤ rep ∧
      sendStep f rep fails .sample cmd s = sendDone fails cmd { s with env := s.env.drawShutdown.2 }) := by
  cases h : s.env.drawShutdown.1 with
  | true => exact .inl ⟨rfl, by simp only [sendStep, sampleShutdown_eq, h, if_true]⟩
  | false =>
    by_cases hr : rep < s.cfg.repeatCount.toNat
    · exact .inr (.inl ⟨rfl, hr, by simp [sendStep, sampleShutdown_eq, h, hr, State.putRunning]⟩)
    · exact .inr (.inr ⟨rfl, by omega, by simp [sendStep, sampleShutdown_eq, h, hr]⟩)

/-- The end of a `SEND` of its own. -/
theorem sendDone_none (fails : Nat) (s : State) : sendDone fails none s =
    { s with running := none, trace := .response ⟨.ok, false, .writeFails fails⟩ :: s.trace } := rfl

theorem sendDone_some (fails : Nat) (c : Command) (s : State) : sendDone fails (some c) s = commandSent c fails s := rfl

/-! The attempt loop (R280). -/

theorem exhausted_eq (fallback : Bool) (n : Nat) (s : State) : exhausted fallback n s =
    { s with
      running := none
      trace := (if fallback = true then [.response ⟨.ok, false, .trySwitch false n true⟩, .fallback]
        else [.response ⟨.receiverBusy, false, .trySwitch false n false⟩]) ++ s.trace } := by
  cases fallback <;> rfl

/-- An attempt succeeds and ends the operation, is busy with another to come, or is the last and busy. -/
theorem tryStep_act_cases (d : Direction) (fb : Bool) (n : Nat) (s : State) :
    (¬(d = .transmitting ∧ s.radioState = .listening ∧ s.env.drawInflight.1 = true) ∧ tryStep d fb n .act s =
      { switchTo d { s with env := s.env.drawInflight.2 } with
        running := none
        trace := .response ⟨.ok, false, .trySwitch true n false⟩ ::
          (switchTo d { s with env := s.env.drawInflight.2 }).trace }) ∨
    ((d = .transmitting ∧ s.radioState = .listening ∧ s.env.drawInflight.1 = true) ∧ n < s.cfg.maxRetries.toNat ∧
      tryStep d fb n .act s = { s with env := s.env.drawInflight.2, running := some (.trysw d fb n .wait) }) ∨
    ((d = .transmitting ∧ s.radioState = .listening ∧ s.env.drawInflight.1 = true) ∧ s.cfg.maxRetries.toNat ≤ n ∧
      tryStep d fb n .act s = exhausted fb n { s with env := s.env.drawInflight.2 }) := by
  rcases attemptSwitch_cases d s with ⟨he, h⟩ | ⟨he, h⟩
  · by_cases hn : n < s.cfg.maxRetries.toNat
    · exact .inr (.inl ⟨h, hn, by simp [tryStep, attemptDone, he, hn, State.putRunning]⟩)
    · exact .inr (.inr ⟨h, by omega, by simp [tryStep, attemptDone, he, hn]⟩)
  · exact .inl ⟨h, by simp only [tryStep, attemptDone, he, if_true]; rfl⟩

theorem tryStep_wait (d : Direction) (fb : Bool) (n : Nat) (s : State) :
    tryStep d fb n .wait s =
      { s with trace := .wait s.cfg.backoffMs.toNat :: s.trace, running := some (.trysw d fb n .sample) } := rfl

/-- The sample ends the session or starts the next attempt. -/
theorem tryStep_sample_cases (d : Direction) (fb : Bool) (n : Nat) (s : State) :
    (s.env.drawShutdown.1 = true ∧ tryStep d fb n .sample s = abort { s with env := s.env.drawShutdown.2 }) ∨
    (s.env.drawShutdown.1 = false ∧ tryStep d fb n .sample s =
      { s with env := s.env.drawShutdown.2, running := some (.trysw d fb (n + 1) .act) }) := by
  cases h : s.env.drawShutdown.1 with
  | true => exact .inl ⟨rfl, by simp only [tryStep, sampleShutdown_eq, h, if_true]⟩
  | false => exact .inr ⟨rfl, by simp [tryStep, sampleShutdown_eq, h, State.putRunning]⟩

/-! The poll loop (R314) and the stages of a capture (R311). -/

/-- A poll finds nothing, or puts the capture on the data path. -/
theorem listenStep_act_cases (s : State) :
    (s.env.drawPoll.1 = none ∧ listenStep .act s =
      { s with env := s.env.drawPoll.2, trace := .pollAvailable :: s.trace, running := some (.listen .wait) }) ∨
    (∃ bytes pipe, s.env.drawPoll.1 = some (bytes, pipe) ∧ listenStep .act s =
      { s with
        env := s.env.drawPoll.2, trace := .pollAvailable :: s.trace, running := some (.listen .wait)
        path := some (.capture (bytes.take s.cfg.capLen.toNat)) }) := by
  cases h : s.env.drawPoll.1 with
  | none => exact .inl ⟨rfl, by simp [listenStep, drvPoll_eq, h, listenPolled, State.putRunning]⟩
  | some a =>
    obtain ⟨bytes, pipe⟩ := a
    exact .inr ⟨bytes, pipe, rfl,
      by simp [listenStep, drvPoll_eq, h, listenPolled, State.putRunning, State.putPath, captured]⟩

theorem listenStep_wait (s : State) : listenStep .wait s =
    { s with trace := .wait s.cfg.pollMs.toNat :: s.trace, running := some (.listen .sample) } := rfl

/-- The sample ends the session or starts the next poll. -/
theorem listenStep_sample_cases (s : State) :
    (s.env.drawShutdown.1 = true ∧ listenStep .sample s = abort { s with env := s.env.drawShutdown.2 }) ∨
    (s.env.drawShutdown.1 = false ∧ listenStep .sample s =
      { s with env := s.env.drawShutdown.2, running := some (.listen .act) }) := by
  cases h : s.env.drawShutdown.1 with
  | true => exact .inl ⟨rfl, by simp only [listenStep, sampleShutdown_eq, h, if_true]⟩
  | false => exact .inr ⟨rfl, by simp [listenStep, sampleShutdown_eq, h, State.putRunning]⟩

/-- The strip of a session's capture succeeds exactly when the capture is no shorter than `CFG_CAP_LEN` and leaves 72
bits. -/
theorem sessionStrip_cases (raw : Bytes) (s : State) :
    ((raw.length < s.cfg.capLen.toNat ∨ 8 * raw.length < s.cfg.stripMsb.toNat + s.cfg.stripLsb.toNat + 72) ∧
      sessionStrip raw s = .error .tooShort) ∨
    (s.cfg.capLen.toNat ≤ raw.length ∧ 8 * raw.length > s.cfg.stripMsb.toNat + s.cfg.stripLsb.toNat + 72 ∧
      sessionStrip raw s = .error .unpackMismatch) ∨
    (s.cfg.capLen.toNat ≤ raw.length ∧ 8 * raw.length = s.cfg.stripMsb.toNat + s.cfg.stripLsb.toNat + 72 ∧
      sessionStrip raw s = .ok (BitVec.ofNat 72 (intBe raw >>> s.cfg.stripLsb.toNat))) := by
  by_cases hc : raw.length < s.cfg.capLen.toNat
  · exact .inl ⟨.inl hc, if_pos hc⟩
  · have hs : sessionStrip raw s = stripCapture s.cfg.stripMsb.toNat s.cfg.stripLsb.toNat raw := if_neg hc
    rw [hs]
    rcases stripCapture_cases s.cfg.stripMsb.toNat s.cfg.stripLsb.toNat raw with ⟨h, e⟩ | ⟨h, e⟩ | ⟨h, e⟩
    · exact .inl ⟨.inr h, e⟩
    · exact .inr (.inl ⟨by omega, h, e⟩)
    · exact .inr (.inr ⟨by omega, h, e⟩)

/-- The strip stage leaves the payload on the path, or reports that the capture is discarded. -/
theorem stripStage_cases (raw : Bytes) (s : State) :
    (∃ p, sessionStrip raw s = .ok p ∧ stripStage raw s = { s with path := some (.payload p) }) ∨
    (∃ d, sessionStrip raw s = .error d ∧
      stripStage raw s = deliver ⟨.frameDecodeError, false, .captureError d⟩ s) := by
  cases h : sessionStrip raw s with
  | ok p => exact .inl ⟨p, rfl, by simp [stripStage, h, State.putPath]⟩
  | error d => exact .inr ⟨d, rfl, by simp [stripStage, h, discardCapture, reply]⟩

/-- `RXPOLL`'s stages: nothing, a capture that does not decode, or a packet. -/
theorem receive_cases (a : Option (Bytes × Nat)) (s : State) :
    (a = none ∧ receive a s = { s with trace := .response ⟨.ok, false, .nothingAvailable⟩ :: s.trace }) ∨
    (∃ bytes pipe d, a = some (bytes, pipe) ∧ sessionStrip (captured bytes s.cfg) s = .error d ∧
      receive a s = discardCapture d s) ∨
    (∃ bytes pipe p, a = some (bytes, pipe) ∧ sessionStrip (captured bytes s.cfg) s = .ok p ∧
      receive a s = validate (unpackPayload p) s) := by
  match a with
  | none => exact .inl ⟨rfl, rfl⟩
  | some (bytes, pipe) =>
    cases h : sessionStrip (captured bytes s.cfg) s with
    | ok p => exact .inr (.inr ⟨bytes, pipe, p, rfl, h, by simp only [receive, h]⟩)
    | error d => exact .inr (.inl ⟨bytes, pipe, d, rfl, h, by simp only [receive, h]⟩)

end Sys2Proof.Machine
end

