-- ==== Sys2Proof/Laws/Params.lean ====
section
/-! SUPPORT. What the operations that are written over the named constants are at the values of 00_scope.md R7. -/

namespace Sys2Proof.Machine

/-- One bit, at width 16 and generator `0x1021` (R182). -/
theorem crcBit_eq (r : BitVec 16) (b : Bool) :
    crcBit r b = if r.getMsbD 0 ^^ b then (r <<< 1) ^^^ 0x1021#16 else r <<< 1 := rfl

/-- Without input reflection the bits of a byte enter from bit 7 down to bit 0 (R183). -/
theorem crcByte_eq (r : BitVec 16) (x : Byte) :
    crcByte r x = [7, 6, 5, 4, 3, 2, 1, 0].foldl (fun r i => crcBit r (x.getLsbD i)) r := rfl

/-- Without output reflection and with a zero final XOR the result is the register itself (R184). -/
@[simp] theorem crcOut_eq (r : BitVec 16) : crcOut r = r := by
  simp [crcOut, crcRefOut, crcXorOut]

/-- `checksum(W) = crc_from(0xFFFE, W)` (R184). -/
theorem checksum_eq (w : Bytes) : checksum w = crcFrom 0xFFFE#16 w := crcOut_eq _

/-- `FRAME_LEN` (R7). -/
theorem frameLen_eq : frameLen = 17 := rfl
/-- `WINDOW_LEN` (R7). -/
theorem windowLen_eq : windowLen = 15 := rfl
/-- `PAYLOAD_BITS` (R7). -/
theorem payloadBits_eq : payloadBits = 72 := rfl
/-- The step field is a nibble (R102). -/
theorem stepBits_eq : stepBits = 4 := rfl

/-! The codes of R102 as the numbers of its table. -/

/-- `add` of a family (R222). -/
theorem addCode_eq (family t : Nat) : addCode family t = BitVec.ofNat 16 (family * 256 + t) := rfl

theorem addCode_power (p : Byte) : addCode familyPower p.toNat = 0x01#8 ++ p := by revert p; decide +kernel
theorem addCode_reset (r : Byte) : addCode familyReset r.toNat = 0x06#8 ++ r := by revert r; decide +kernel
theorem addCode_cooler (t : BitVec 4) : addCode familyCooler t.toNat = 0x020#12 ++ t := by revert t; decide
theorem addCode_brighter (t : BitVec 4) : addCode familyBrighter t.toNat = 0x040#12 ++ t := by revert t; decide
theorem subCode_warmer_w8 (n : BitVec 4) : subCode .w8 familyWarmer (borrowed n.toNat) = 0x03F#12 ++ n := by
  revert n; decide
theorem subCode_warmer_w16 (n : BitVec 4) : subCode .w16 familyWarmer (borrowed n.toNat) = 0x02F#12 ++ n := by
  revert n; decide
theorem subCode_dimmer_w8 (n : BitVec 4) : subCode .w8 familyDimmer (borrowed n.toNat) = 0x05F#12 ++ n := by
  revert n; decide
theorem subCode_dimmer_w16 (n : BitVec 4) : subCode .w16 familyDimmer (borrowed n.toNat) = 0x04F#12 ++ n := by
  revert n; decide

/-- The saturate codes (R103). -/
theorem saturateCodes : subCode .w8 familyWarmer satStep = 0x03F0 ∧ subCode .w16 familyWarmer satStep = 0x02F0 ∧
    subCode .w8 familyDimmer satStep = 0x05F0 ∧ subCode .w16 familyDimmer satStep = 0x04F0 := by decide

/-- Every step that fits its field is one that a cooler or brighter code carries. -/
@[simp] theorem addStep_eq (t : BitVec 4) : addStep t = true := by revert t; decide

/-- The field of a warmer or dimmer code is any but 0. -/
@[simp] theorem subStep_eq (n : BitVec 4) : subStep n = (n != 0) := by revert n; decide

/-! The scale maps. -/

/-- The default map of `SCALE.BRT` (R262). -/
theorem scaleBrtDefault_eq (b : Nat) : scaleBrtDefault b = BitVec.ofNat 4 ((15 * b + 127) / 255) := rfl

/-- The default map of `SCALE.CT` on the first segment (R263). -/
theorem scaleCtDefault_low {m : Nat} (h : m ≤ 219) :
    scaleCtDefault m = BitVec.ofNat 4 ((15 * 132 + 66 - 16 * (m - 153)) / 132) := by
  rw [scaleCtDefault, if_pos (show m ≤ ctCorner.1 from h)]; rfl

/-- The default map of `SCALE.CT` past the corner (R263). -/
theorem scaleCtDefault_high {m : Nat} (h : 219 < m) :
    scaleCtDefault m = BitVec.ofNat 4 ((7 * 302 + 151 - 14 * (m - 219)) / 302) := by
  rw [scaleCtDefault, if_neg (show ¬m ≤ ctCorner.1 from Nat.not_le.mpr h)]; rfl

/-- The fixed points of `SCALE.CT` (R263). -/
theorem scaleCtFixed_eq : scaleCtFixed = [(153, 15), (219, 7), (370, 0)] := rfl

end Sys2Proof.Machine
end

