-- ==== Sys2Proof/Laws/PerInstr.lean ====
section
/-! SUPPORT. The family TableRow, one lemma for each constructor: what the encoder writes for a well-formed instruction has the
length and the fixed bits of its row in spec/opcode_table.json. In every row the fixed bits are the topmost ones, so they
are given as the number that is left when the `low` bits below them are dropped. -/

namespace Sys2Proof.Laws

open Sys2Proof.Machine

/-- The length and the fixed bits of a row. -/
structure RowBits where
  nbits : Nat
  low : Nat
  fixed : Nat

/-- The rows of spec/opcode_table.json; CAPTURE has no fixed length and no fixed bit. -/
def rowBits : Instr → Option RowBits
  | .init _ _ _ => some ⟨8, 0, 0x00⟩
  | .shutdown => some ⟨8, 0, 0x01⟩
  | .encodeOp _ _ _ _ => some ⟨8, 0, 0x10⟩
  | .decodeOp _ _ => some ⟨8, 0, 0x11⟩
  | .goodpkt _ => some ⟨8, 0, 0x12⟩
  | .crcStart => some ⟨8, 0, 0x20⟩
  | .crcByte _ => some ⟨8, 0, 0x21⟩
  | .crcRead => some ⟨8, 0, 0x22⟩
  | .crcSum _ _ => some ⟨8, 0, 0x23⟩
  | .pwr _ => some ⟨8, 0, 0x30⟩
  | .cool _ _ => some ⟨8, 0, 0x31⟩
  | .warm _ _ => some ⟨8, 0, 0x32⟩
  | .brt _ _ => some ⟨8, 0, 0x33⟩
  | .dim _ _ => some ⟨8, 0, 0x34⟩
  | .rst _ => some ⟨8, 0, 0x35⟩
  | .setbrt _ _ => some ⟨8, 0, 0x36⟩
  | .setct _ _ => some ⟨8, 0, 0x37⟩
  | .send _ => some ⟨8, 0, 0x38⟩
  | .scaleBrt _ => some ⟨8, 0, 0x39⟩
  | .scaleCt _ => some ⟨8, 0, 0x3A⟩
  | .swmode _ => some ⟨8, 0, 0x40⟩
  | .trysw _ _ => some ⟨8, 0, 0x41⟩
  | .rxpoll => some ⟨8, 0, 0x50⟩
  | .listen => some ⟨8, 0, 0x51⟩
  | .codePowerToggle _ => some ⟨16, 8, 0x01⟩
  | .codeCooler _ => some ⟨16, 4, 0x020⟩
  | .codeWarmerStep0 => some ⟨16, 0, 0x0300⟩
  | .codeWarmerW8 _ => some ⟨16, 4, 0x03F⟩
  | .codeWarmerW16 _ => some ⟨16, 4, 0x02F⟩
  | .codeWarmerSaturateW8 => some ⟨16, 0, 0x03F0⟩
  | .codeWarmerSaturateW16 => some ⟨16, 0, 0x02F0⟩
  | .codeBrighter _ => some ⟨16, 4, 0x040⟩
  | .codeDimmerStep0 => some ⟨16, 0, 0x0500⟩
  | .codeDimmerW8 _ => some ⟨16, 4, 0x05F⟩
  | .codeDimmerW16 _ => some ⟨16, 4, 0x04F⟩
  | .codeDimmerSaturateW8 => some ⟨16, 0, 0x05F0⟩
  | .codeDimmerSaturateW16 => some ⟨16, 0, 0x04F0⟩
  | .codeReset _ => some ⟨16, 8, 0x06⟩
  | .frame _ _ _ _ _ => some ⟨136, 72, 0x533914DD1C493412⟩
  | .payload _ => some ⟨72, 72, 0⟩
  | .capture _ => none

/-- The length in bits and the number of an item; of a request the select byte. -/
def itemBits : Item → Nat × Nat
  | .request r => (8, r.op.toNat)
  | .code w => (16, w.toNat)
  | .frame f => (8 * f.length, intBe f)
  | .payload p => (72, p.toNat)
  | .capture raw => (8 * raw.length, intBe raw)

/-- The encoded instruction has its row's length and fixed bits; a capture is encoded as itself. -/
def TableRow.Statement (i : Instr) : Prop :=
  i.wellFormed = true →
    match rowBits i with
    | some b => (itemBits (encode i)).1 = b.nbits ∧ (itemBits (encode i)).2 / 2 ^ b.low = b.fixed
    | none => ∃ raw, i = .capture raw ∧ encode i = .capture raw

theorem TableRow.of_request {i : Instr} {r : Request} (he : encode i = .request r)
    (hr : rowBits i = some ⟨8, 0, r.op.toNat⟩) : TableRow.Statement i := by
  intro _
  rw [hr, he]
  exact ⟨rfl, Nat.div_one _⟩

theorem TableRow.of_code {i : Instr} {w : BitVec 16} {low fixed : Nat} (he : encode i = .code w)
    (hr : rowBits i = some ⟨16, low, fixed⟩) (h : w.toNat / 2 ^ low = fixed) : TableRow.Statement i := by
  intro _
  rw [hr, he]
  exact ⟨rfl, h⟩

/-- The bits above the lower part of a word. -/
theorem append_toNat_div {m n : Nat} (f : BitVec m) (x : BitVec n) : (f ++ x).toNat / 2 ^ n = f.toNat := by
  rw [BitVec.toNat_append, ← Nat.shiftLeft_add_eq_or_of_lt x.isLt, Nat.shiftLeft_eq, Nat.mul_comm,
    Nat.mul_add_div (by positivity), Nat.div_eq_of_lt x.isLt, Nat.add_zero]

theorem TableRow.init (a : BitVec 24) (b : Byte) (c : SessionConfig) : TableRow.Statement (.init a b c) := TableRow.of_request rfl rfl
theorem TableRow.shutdown : TableRow.Statement (.shutdown) := TableRow.of_request rfl rfl
theorem TableRow.encodeOp (a : BitVec 24) (b : BitVec 16) (c : Byte) (d : Option Byte) : TableRow.Statement (.encodeOp a b c d) := TableRow.of_request rfl rfl
theorem TableRow.decodeOp (a : Bytes) (b : Option (Nat × Nat)) : TableRow.Statement (.decodeOp a b) := TableRow.of_request rfl rfl
theorem TableRow.goodpkt (a : DecodedPacket) : TableRow.Statement (.goodpkt a) := TableRow.of_request rfl rfl
theorem TableRow.crcStart : TableRow.Statement (.crcStart) := TableRow.of_request rfl rfl
theorem TableRow.crcByte (a : Byte) : TableRow.Statement (.crcByte a) := TableRow.of_request rfl rfl
theorem TableRow.crcRead : TableRow.Statement (.crcRead) := TableRow.of_request rfl rfl
theorem TableRow.crcSum (a : Bytes) (b : Option (Nat × Nat)) : TableRow.Statement (.crcSum a b) := TableRow.of_request rfl rfl
theorem TableRow.pwr (a : Option Byte) : TableRow.Statement (.pwr a) := TableRow.of_request rfl rfl
theorem TableRow.cool (a : Option Int) (b : Option Byte) : TableRow.Statement (.cool a b) := TableRow.of_request rfl rfl
theorem TableRow.warm (a : Option Int) (b : Option Byte) : TableRow.Statement (.warm a b) := TableRow.of_request rfl rfl
theorem TableRow.brt (a : Option Int) (b : Option Byte) : TableRow.Statement (.brt a b) := TableRow.of_request rfl rfl
theorem TableRow.dim (a : Option Int) (b : Option Byte) : TableRow.Statement (.dim a b) := TableRow.of_request rfl rfl
theorem TableRow.rst (a : Option Byte) : TableRow.Statement (.rst a) := TableRow.of_request rfl rfl
theorem TableRow.setbrt (a : Int) (b : Option Byte) : TableRow.Statement (.setbrt a b) := TableRow.of_request rfl rfl
theorem TableRow.setct (a : Int) (b : Option Byte) : TableRow.Statement (.setct a b) := TableRow.of_request rfl rfl
theorem TableRow.send (a : Bytes) : TableRow.Statement (.send a) := TableRow.of_request rfl rfl
theorem TableRow.scaleBrt (a : Int) : TableRow.Statement (.scaleBrt a) := TableRow.of_request rfl rfl
theorem TableRow.scaleCt (a : Int) : TableRow.Statement (.scaleCt a) := TableRow.of_request rfl rfl
theorem TableRow.swmode (a : Direction) : TableRow.Statement (.swmode a) := TableRow.of_request rfl rfl
theorem TableRow.trysw (a : Direction) (b : Bool) : TableRow.Statement (.trysw a b) := TableRow.of_request rfl rfl
theorem TableRow.rxpoll : TableRow.Statement (.rxpoll) := TableRow.of_request rfl rfl
theorem TableRow.listen : TableRow.Statement (.listen) := TableRow.of_request rfl rfl
theorem TableRow.codePowerToggle (x : BitVec 8) : TableRow.Statement (.codePowerToggle x) :=
  TableRow.of_code (congrArg Item.code (addCode_power x)) rfl (append_toNat_div _ x)
theorem TableRow.codeCooler (x : BitVec 4) : TableRow.Statement (.codeCooler x) :=
  TableRow.of_code (congrArg Item.code (addCode_cooler x)) rfl (append_toNat_div _ x)
theorem TableRow.codeWarmerStep0 : TableRow.Statement .codeWarmerStep0 := fun _ => ⟨rfl, rfl⟩
theorem TableRow.codeWarmerW8 (x : BitVec 4) : TableRow.Statement (.codeWarmerW8 x) :=
  TableRow.of_code (congrArg Item.code (subCode_warmer_w8 x)) rfl (append_toNat_div _ x)
theorem TableRow.codeWarmerW16 (x : BitVec 4) : TableRow.Statement (.codeWarmerW16 x) :=
  TableRow.of_code (congrArg Item.code (subCode_warmer_w16 x)) rfl (append_toNat_div _ x)
theorem TableRow.codeWarmerSaturateW8 : TableRow.Statement .codeWarmerSaturateW8 := fun _ => ⟨rfl, rfl⟩
theorem TableRow.codeWarmerSaturateW16 : TableRow.Statement .codeWarmerSaturateW16 := fun _ => ⟨rfl, rfl⟩
theorem TableRow.codeBrighter (x : BitVec 4) : TableRow.Statement (.codeBrighter x) :=
  TableRow.of_code (congrArg Item.code (addCode_brighter x)) rfl (append_toNat_div _ x)
theorem TableRow.codeDimmerStep0 : TableRow.Statement .codeDimmerStep0 := fun _ => ⟨rfl, rfl⟩
theorem TableRow.codeDimmerW8 (x : BitVec 4) : TableRow.Statement (.codeDimmerW8 x) :=
  TableRow.of_code (congrArg Item.code (subCode_dimmer_w8 x)) rfl (append_toNat_div _ x)
theorem TableRow.codeDimmerW16 (x : BitVec 4) : TableRow.Statement (.codeDimmerW16 x) :=
  TableRow.of_code (congrArg Item.code (subCode_dimmer_w16 x)) rfl (append_toNat_div _ x)
theorem TableRow.codeDimmerSaturateW8 : TableRow.Statement .codeDimmerSaturateW8 := fun _ => ⟨rfl, rfl⟩
theorem TableRow.codeDimmerSaturateW16 : TableRow.Statement .codeDimmerSaturateW16 := fun _ => ⟨rfl, rfl⟩
theorem TableRow.codeReset (x : BitVec 8) : TableRow.Statement (.codeReset x) :=
  TableRow.of_code (congrArg Item.code (addCode_reset x)) rfl (append_toNat_div _ x)

theorem TableRow.frame (id : BitVec 24) (sep counter : Byte) (code crc : BitVec 16) :
    TableRow.Statement (.frame id sep counter code crc) := by
  intro _
  show 8 * (frameBytes id sep counter code crc).length = 136 ∧ intBe (frameBytes id sep counter code crc) / 2 ^ 72 = _
  refine ⟨by simp, ?_⟩
  simp only [frameBytes_eq, window_eq, List.append_assoc]
  rw [intBe_append, intBe_preambleBytes]
  simp only [List.length_append, be_length, List.length_cons, List.length_nil]
  have h := intBe_lt (be 3 id.toNat ++ ([sep] ++ ([counter] ++ (be 2 code.toNat ++ be 2 crc.toNat))))
  simp only [List.length_append, be_length, List.length_cons, List.length_nil] at h
  rw [Nat.add_comm, Nat.add_mul_div_right _ _ (by positivity), Nat.div_eq_of_lt h]
  rfl

theorem TableRow.payload (p : DecodedPacket) : TableRow.Statement (.payload p) :=
  fun _ => ⟨rfl, Nat.div_eq_of_lt (packPayload p).isLt⟩

theorem TableRow.capture (raw : Bytes) : TableRow.Statement (.capture raw) := fun _ => ⟨raw, rfl, rfl⟩

end Sys2Proof.Laws
end

