-- ==== Sys2Proof/Laws/Run.lean ====
section
/-! SUPPORT. Runs, one step at a time. -/

namespace Sys2Proof.Machine

theorem runSteps_zero (s : State) : runSteps 0 s = .next s := rfl

theorem runSteps_succ {s t : State} (h : step s = .next t) (k : Nat) : runSteps (k + 1) s = runSteps k t := by
  simp only [runSteps, Host.Core.run]
  have h' : Sys2Proof.core.step s = .next t := h
  rw [h']

theorem runSteps_add {s t : State} {k : Nat} (h : runSteps k s = .next t) (j : Nat) :
    runSteps (k + j) s = runSteps j t := by
  induction k generalizing s with
  | zero =>
    obtain rfl : s = t := Host.Outcome.next.inj h
    rw [Nat.zero_add]
  | succ k ih =>
    have hstep : ∃ u, step s = .next u := by
      cases hs : step s with
      | next u => exact ⟨u, rfl⟩
      | fault r =>
        have h' : Sys2Proof.core.step s = .fault r := hs
        simp only [runSteps, Host.Core.run] at h
        rw [h'] at h
        cases h
      | refused r =>
        have h' : Sys2Proof.core.step s = .refused r := hs
        simp only [runSteps, Host.Core.run] at h
        rw [h'] at h
        cases h
    obtain ⟨u, hu⟩ := hstep
    rw [runSteps_succ hu] at h
    rw [Nat.succ_add, runSteps_succ hu]
    exact ih h

end Sys2Proof.Machine
end

