-- ==== Sys2Proof/Tests/Slice0.lean ====
section
/-! SUPPORT. The model's own tests. Expected values come from spec/: the vectors of 95_test_vectors.md (their ids stand in the
comments), the worked examples and the tables of the rules. Every run is one step. The second half holds, for each
obligation that has hypotheses, a concrete state and operands that meet them. -/

namespace Sys2Proof.Tests

open Sys2Proof.Machine

/-- What a function reads off the next state, if there is one. -/
def after {α : Type} (o : Host.Outcome State Fault Refusal) (f : State → α) : Option α :=
  match o with
  | .next s => some (f s)
  | _ => none

/-- The newest event. -/
def newest (s : State) : Option Event := s.trace.head?

/-- A response with `aborted` = 0. -/
def resp (st : Status) (r : Result) : Option (Option Event) := some (some (.response ⟨st, false, r⟩))

/-- The vectors' configuration: R41's defaults, `SEP` = `0xFF`, two pipes of our own. -/
def cfg0 : SessionConfig := configDefaults 0xFF 1 2

/-- A session with id `0x123456`. -/
def sess : State := { State.reset with inited := true, devId := 0x123456, cfg := cfg0 }

/-- After a failed `INIT` (I2v). -/
def broken : State := { State.reset with hwFault := true }

/-- A session of a build with `SUB_WIDTH` = 16. -/
def sess16 : State := { sess with build := { buildDefaults with subWidth := .w16 } }

/-- The preamble. -/
def pre : Bytes := [0x53, 0x39, 0x14, 0xDD, 0x1C, 0x49, 0x34, 0x12]

/-- The packet of frame E1. -/
def p1 : DecodedPacket := ⟨0x123456, 0xFF, 0x00, 0x0100, 0xCA18⟩

/-- Frame E1. -/
def e1 : Bytes := pre ++ [0x12, 0x34, 0x56, 0xFF, 0x00, 0x01, 0x00, 0xCA, 0x18]

/-- Captures K1, K3 and K4. -/
def k1 : Bytes := [0x68, 0x24, 0x24, 0x68, 0xAD, 0xFE, 0x00, 0x02, 0x01, 0x94, 0x30, 0x00]
def k3 : Bytes := [0x68, 0x24, 0x24, 0x68, 0xAD, 0xEE, 0x00, 0x02, 0x01, 0x94, 0x30, 0x00]
def k4 : Bytes := [0x68, 0x25, 0x57, 0x9B, 0xDF, 0xFE, 0x54, 0x04, 0x02, 0x91, 0x93, 0x55]

/-! ## WellFormed: an ill-formed term for each check -/

theorem test_wf_send_length :
    (Instr.send []).wellFormed = false ∧ (Instr.send (List.replicate 16 0)).wellFormed = false ∧
    (Instr.send (List.replicate 18 0)).wellFormed = false ∧ (Instr.send (List.replicate 17 0)).wellFormed = true := by decide
theorem test_wf_saturate_is_another_row :
    (Instr.codeWarmerW8 0).wellFormed = false ∧ (Instr.codeWarmerW16 0).wellFormed = false ∧
    (Instr.codeDimmerW8 0).wellFormed = false ∧ (Instr.codeDimmerW16 0).wellFormed = false ∧
    (Instr.codeWarmerW8 1).wellFormed = true ∧ (Instr.codeDimmerW16 15).wellFormed = true := by decide

/-! ## Decode: every constructor's word, written out from R120, R102, R90, R94, R93 -/

theorem test_decode_system :
    decodeTableWord 8 0x00 = some (.init 0 0 .zero) ∧ decodeTableWord 8 0x01 = some .shutdown := by decide
theorem test_decode_frame_codec :
    decodeTableWord 8 0x10 = some (.encodeOp 0 0 0 none) ∧ decodeTableWord 8 0x11 = some (.decodeOp [] none) ∧
    decodeTableWord 8 0x12 = some (.goodpkt ⟨0, 0, 0, 0, 0⟩) := by decide
theorem test_decode_crc_engine :
    decodeTableWord 8 0x20 = some .crcStart ∧ decodeTableWord 8 0x21 = some (.crcByte 0) ∧
    decodeTableWord 8 0x22 = some .crcRead ∧ decodeTableWord 8 0x23 = some (.crcSum [] none) := by decide
theorem test_decode_command_model :
    decodeTableWord 8 0x30 = some (.pwr none) ∧ decodeTableWord 8 0x31 = some (.cool none none) ∧
    decodeTableWord 8 0x32 = some (.warm none none) ∧ decodeTableWord 8 0x33 = some (.brt none none) ∧
    decodeTableWord 8 0x34 = some (.dim none none) ∧ decodeTableWord 8 0x35 = some (.rst none) ∧
    decodeTableWord 8 0x36 = some (.setbrt 0 none) ∧ decodeTableWord 8 0x37 = some (.setct 0 none) ∧
    decodeTableWord 8 0x38 = some (.send (List.replicate 17 0)) ∧ decodeTableWord 8 0x39 = some (.scaleBrt 0) ∧
    decodeTableWord 8 0x3A = some (.scaleCt 0) := by decide
theorem test_decode_arbiter_and_decoder :
    decodeTableWord 8 0x40 = some (.swmode .listening) ∧ decodeTableWord 8 0x41 = some (.trysw .listening false) ∧
    decodeTableWord 8 0x50 = some .rxpoll ∧ decodeTableWord 8 0x51 = some .listen := by decide
/-- I13v. -/
theorem test_decode_reserved_select :
    decodeTableWord 8 0x02 = none ∧ decodeTableWord 8 0x13 = none ∧ decodeTableWord 8 0x3B = none ∧
    decodeTableWord 8 0x42 = none ∧ decodeTableWord 8 0x52 = none ∧ decodeTableWord 8 0xFF = none := by decide
theorem test_decode_codes :
    decodeTableWord 16 0b0000000110100101 = some (.codePowerToggle 0xA5) ∧
    decodeTableWord 16 0b0000001000001111 = some (.codeCooler 15) ∧
    decodeTableWord 16 0b0000001100000000 = some .codeWarmerStep0 ∧
    decodeTableWord 16 0b0000001111110001 = some (.codeWarmerW8 1) ∧
    decodeTableWord 16 0b0000001011111111 = some (.codeWarmerW16 15) ∧
    decodeTableWord 16 0b0000001111110000 = some .codeWarmerSaturateW8 ∧
    decodeTableWord 16 0b0000001011110000 = some .codeWarmerSaturateW16 ∧
    decodeTableWord 16 0b0000010000000001 = some (.codeBrighter 1) := by decide
theorem test_decode_codes_dimmer_and_reset :
    decodeTableWord 16 0b0000010100000000 = some .codeDimmerStep0 ∧
    decodeTableWord 16 0b0000010111111111 = some (.codeDimmerW8 15) ∧
    decodeTableWord 16 0b0000010011110001 = some (.codeDimmerW16 1) ∧
    decodeTableWord 16 0b0000010111110000 = some .codeDimmerSaturateW8 ∧
    decodeTableWord 16 0b0000010011110000 = some .codeDimmerSaturateW16 ∧
    decodeTableWord 16 0b0000011011111111 = some (.codeReset 0xFF) := by decide
/-- Families and arguments that R102 does not list (R104). -/
theorem test_decode_unlisted_codes :
    decodeTableWord 16 0x0000 = none ∧ decodeTableWord 16 0x0210 = none ∧ decodeTableWord 16 0x0301 = none ∧
    decodeTableWord 16 0x03EF = none ∧ decodeTableWord 16 0x0410 = none ∧ decodeTableWord 16 0x0501 = none ∧
    decodeTableWord 16 0x0700 = none ∧ decodeTableWord 16 0xFFFF = none := by decide
/-- E1, K10 and K1. -/
theorem test_decode_data :
    decodeTableWord 136 0x533914DD1C493412123456FF000100CA18 = some (.frame 0x123456 0xFF 0x00 0x0100 0xCA18) ∧
    decodeTableWord 136 0x533914DD1C493413123456FF000100CA18 = none ∧
    decodeTableWord 72 0x123456FF000100CA18 = some (.payload p1) ∧
    decodeTableWord 96 0x68242468ADFE000201943000 = some (.capture k1) := by decide

/-- The operand ports of R121 with their presence bits, and the target bit of R111. -/
theorem test_decode_operand_ports :
    decode (.request { Request.zero 0x31 with stepValid := true, stepArg := 3, ctrValid := true, ctr := 0x10 }) =
      .ok (.cool (some 3) (some 0x10)) ∧
    decode (.request { Request.zero 0x31 with stepArg := 3, ctr := 0x10 }) = .ok (.cool none none) ∧
    decode (.request { Request.zero 0x41 with target := true, fallbackEn := true }) = .ok (.trysw .transmitting true) ∧
    decode (.request { Request.zero 0x23 with window := e1, winValid := true, off := 8, n := 7 }) =
      .ok (.crcSum e1 (some (8, 7))) := by decide

/-! ## CRC Engine -/

/-- C1 to C8. -/
theorem test_checksum_short :
    checksum [] = 0xFFFE ∧ checksum [0x00] = 0xE0F0 ∧ checksum [0x01] = 0xF0D1 ∧ checksum [0x80] = 0x7178 ∧
    checksum [0xFF] = 0xFE00 ∧ checksum [0, 0] = 0x0D2E ∧ checksum [0, 0, 0] = 0xFFAD ∧ checksum [0x53] = 0x8A66 := by decide
/-- C9 to C13 and C16's counterexample. -/
theorem test_checksum_long :
    checksum pre = 0xDE39 ∧ checksum [0x31, 0x32, 0x33, 0x34] = 0x6479 ∧
    checksum [0x31, 0x32, 0x33, 0x34, 0x35, 0x36, 0x37, 0x38, 0x39] = 0x6E62 ∧
    checksum (List.replicate 15 0x00) = 0x35A2 ∧ checksum (List.replicate 15 0xFF) = 0xADBE ∧
    checksum e1 = 0x0000 ∧ checksum [0xCA, 0x18] = 0x6788 := by decide +kernel
/-- The bit trace of R183. -/
theorem test_crc_bit_trace :
    crcBit 0xFFFE false = 0xEFDD ∧ crcBit 0xEFDD true = 0xDFBA ∧ crcBit 0x5EAA false = 0xBD54 ∧
    crcBit 0x6A89 true = 0xC533 := by decide
theorem test_crc_start : after (exec .crcStart { sess with crcReg := 0x1234 }) (·.crcReg) = some 0xFFFE := by decide
/-- P4, lines 2 and 4. -/
theorem test_crc_byte :
    after (exec (.crcByte 0x31) State.reset) (·.crcReg) = some 0xC682 ∧
    after (exec (.crcByte 0x32) { State.reset with crcReg := 0xCA18 }) (·.crcReg) = some 0x7617 := by decide
/-- I14v. -/
theorem test_crc_read : after (exec .crcRead State.reset) newest = resp .ok (.crc 0xFFFE) := by decide
/-- C17. -/
theorem test_crc_sum :
    after (exec (.crcSum e1 (some (0, 15))) State.reset) (·.crcReg) = some 0xCA18 ∧
    after (exec (.crcSum e1 (some (8, 7))) State.reset) newest = resp .ok (.crc 0x6AFE) ∧
    after (exec (.crcSum e1 (some (17, 0))) State.reset) newest = resp .ok (.crc 0xFFFE) := by decide +kernel
theorem test_crc_sum_past_the_end :
    after (exec (.crcSum e1 (some (10, 8))) { sess with crcReg := 0x1234 }) (fun s => (newest s, s.crcReg)) =
      some (some (.response ⟨.refused, false, .none⟩), 0x1234) := by decide

/-! ## Frame Codec -/

/-- The code is read, and the encoder writes the same code for what is read. -/
def readsBack (c : BitVec 16) : Bool :=
  match decodeCode c with
  | .ok i => encode i = .code c
  | .error _ => false

/-- Every code of R102 and R103, over the named constants and for both values of `SUB_WIDTH`. -/
theorem test_emitted_codes_are_read :
    ∀ w ∈ [SubWidth.w8, .w16], ∀ t ∈ List.range (stepMax + 1),
      [addCode familyPower t, addCode familyCooler t, subCode w familyWarmer t, addCode familyBrighter t,
        subCode w familyDimmer t, addCode familyReset t, subCode w familyWarmer satStep,
        subCode w familyDimmer satStep].all readsBack = true := by decide +kernel

/-- E1 (I10v) and E3. -/
theorem test_encode :
    after (exec (.encodeOp 0x123456 0x0100 0x00 (some 0xFF)) State.reset) (fun s => (newest s, s.crcReg)) =
      some (some (.response ⟨.ok, false, .frame e1⟩), 0xCA18) ∧
    after (exec (.encodeOp 0xABCDEF 0x0201 0x2A none) sess) newest = resp .ok (.frame
      (pre ++ [0xAB, 0xCD, 0xEF, 0xFF, 0x2A, 0x02, 0x01, 0x48, 0xC9])) := by decide +kernel
/-- I9v. -/
theorem test_encode_needs_a_separator :
    after (exec (.encodeOp 0x123456 0x0100 0x00 none) State.reset) newest = resp .refused .none := by decide
/-- K1, K8 and K5, K6. -/
theorem test_decode_op :
    after (exec (.decodeOp k1 none) sess) newest = resp .ok (.packet p1) ∧
    after (exec (.decodeOp e1 (some (64, 0))) State.reset) newest = resp .ok (.packet p1) := by decide
theorem test_decode_op_length :
    after (exec (.decodeOp (k1.take 11) none) sess) newest = resp .frameDecodeError (.decodeError .tooShort) ∧
    after (exec (.decodeOp (k1 ++ [0]) none) sess) newest = resp .frameDecodeError (.decodeError .unpackMismatch) := by decide
/-- K1, and K7 with its recomputed checksum. -/
theorem test_goodpkt :
    after (exec (.goodpkt p1) State.reset) newest = resp .ok (.good true) ∧
    after (exec (.goodpkt ⟨0, 0, 0, 0, 0⟩) broken) (fun s => (newest s, s.crcReg)) =
      some (some (.response ⟨.ok, false, .good false⟩), 0x1488) := by decide +kernel

/-! ## Start-up and shutdown -/

/-- I1v and I2v. -/
theorem test_init :
    after (exec (.init 0x123456 0x07 cfg0) { State.reset with env := { State.reset.env with connected := [true] } })
      (fun s => (s.inited, s.devId, s.seqCtr, s.cfg, s.radioState)) = some (true, 0x123456, 0x07, cfg0, .idle) ∧
    after (exec (.init 0x123456 0x07 cfg0) { State.reset with env := { State.reset.env with connected := [false] } })
      (fun s => (newest s, s.hwFault, s.inited)) =
      some (some (.response ⟨.hardwareUnavailable, false, .none⟩), true, false) := by decide
/-- I5v and I7v. -/
theorem test_init_refused :
    after (exec (.init 0 0 cfg0) broken) newest = resp .refused .none ∧
    after (exec (.init 0 0 cfg0) sess) newest = resp .refused .none := by decide
/-- I6v. -/
theorem test_shutdown :
    after (exec .shutdown broken) (fun s => (s.hwFault, s.trace)) =
      some (false, [.response ⟨.ok, false, .none⟩, .release]) ∧
    after (exec .shutdown { sess with crcReg := 0, radioState := .listening }) (fun s => (s.crcReg, s.radioState, s.inited)) =
      some (0xFFFE, .idle, false) := by decide

/-! ## Command Model: the code each operation hands on, and its counter -/

/-- The code on the path, the counter and the code left for a second frame. -/
def started (s : State) : Option Item × Byte × Option (BitVec 16) :=
  match s.running with
  | some (.emit c _) => (s.path, c.counter, c.nextCode)
  | _ => (none, 0, none)

/-- M1 and M2. -/
theorem test_pwr :
    after (exec (.pwr none) sess) started = some (some (.code 0x0100), 0x00, none) ∧
    after (exec (.pwr (some 7)) { sess with seqCtr := 0x33 }) started =
      some (some (.code 0x0100), 0x07, none) := by decide
/-- S5 and M4. -/
theorem test_cool :
    after (exec (.cool none none) sess) (·.path) = some (some (.code 0x0201)) ∧
    after (exec (.cool (some (-5)) none) sess) (·.path) = some (some (.code 0x0200)) ∧
    after (exec (.cool (some 20) none) sess) (·.path) = some (some (.code 0x020F)) := by decide
/-- M8, M10b for both widths. -/
theorem test_warm :
    after (exec (.warm none none) sess) (·.path) = some (some (.code 0x03FF)) ∧
    after (exec (.warm none none) sess16) (·.path) = some (some (.code 0x02FF)) ∧
    after (exec (.warm (some 16) none) sess) (·.path) = some (some (.code 0x03F1)) ∧
    after (exec (.warm (some 0) none) sess16) (·.path) = some (some (.code 0x0300)) := by decide
/-- M11, M11b. -/
theorem test_brt :
    after (exec (.brt none none) sess) (·.path) = some (some (.code 0x0401)) ∧
    after (exec (.brt (some 0) none) sess) (·.path) = some (some (.code 0x0400)) := by decide
/-- M13, M13b. -/
theorem test_dim :
    after (exec (.dim none none) sess) (·.path) = some (some (.code 0x05FF)) ∧
    after (exec (.dim (some 15) none) sess16) (·.path) = some (some (.code 0x04F1)) := by decide
theorem test_rst : after (exec (.rst (some 5)) sess) started = some (some (.code 0x0600), 5, none) := by decide
/-- M14 for both widths. -/
theorem test_setbrt :
    after (exec (.setbrt 10 (some 5)) sess) started = some (some (.code 0x05F0), 5, some 0x040A) ∧
    after (exec (.setbrt 99 none) sess16) started = some (some (.code 0x04F0), 0, some 0x040F) := by decide
/-- M16, M19. -/
theorem test_setct :
    after (exec (.setct 7 (some 0xFF)) sess) started = some (some (.code 0x03F0), 0xFF, some 0x0207) ∧
    after (exec (.setct (-1) none) sess16) started = some (some (.code 0x02F0), 0, some 0x0200) := by decide
/-- The first write of `SEND`, and its answer `false` (W2). -/
theorem test_send :
    after (exec (.send e1) sess) (·.running) = some (some (.send e1 1 0 .act none)) ∧
    after (step { sess with
      running := some (.send e1 1 0 .act none), env := { sess.env with writeOk := [false] } })
      (fun s => (s.running, s.trace)) = some (some (.send e1 1 1 .wait none), [.writeBlocking e1]) := by decide
/-- W4, and an operand that is no frame's length. -/
theorem test_send_nothing :
    after (exec (.send e1) { sess with cfg := { cfg0 with repeatCount := 0 } }) newest = resp .ok (.writeFails 0) ∧
    after (exec (.send [0]) sess) newest = resp .refused .none := by decide
/-- The last sample of the last frame (M12, M17: the counter wraps). -/
theorem test_counter_wraps :
    after (step { sess with
      seqCtr := 0xFF, env := { sess.env with shutdown := [false] }
      running := some (.send e1 20 0 .sample (some ⟨0xFF, true, 1, none⟩)) }) (fun s => (s.seqCtr, s.running)) =
      some (0x00, none) ∧
    after (step { sess with
      seqCtr := 0xFF, env := { sess.env with shutdown := [false] }
      running := some (.send e1 20 3 .sample (some ⟨0xFF, true, 2, none⟩)) }) (fun s => (s.seqCtr, newest s)) =
      some (0x01, some (.response ⟨.ok, false, .writeFails 3⟩)) := by decide
/-- The table of `SCALE.BRT`. -/
theorem test_scale_brt :
    ([0, 8, 9, 25, 26, 127, 128, 246, 247, 255].map fun b => after (exec (.scaleBrt b) State.reset) newest) =
      [0, 0, 1, 1, 2, 7, 8, 14, 15, 15].map fun v => resp .ok (.scaled v) := by decide
/-- The table of `SCALE.CT`. -/
theorem test_scale_ct :
    ([153, 154, 157, 158, 186, 218, 219, 220, 229, 230, 294, 295, 359, 360, 369, 370].map fun m =>
      after (exec (.scaleCt m) broken) newest) =
      [15, 15, 15, 14, 11, 7, 7, 7, 7, 6, 4, 3, 1, 0, 0, 0].map fun v => resp .ok (.scaled v) := by decide
theorem test_scale_domain :
    ([-1, 256].map fun b => after (exec (.scaleBrt b) sess) newest) = [resp .refused .none, resp .refused .none] ∧
    ([152, 371].map fun m => after (exec (.scaleCt m) sess) newest) = [resp .refused .none, resp .refused .none] := by decide
/-- A build whose maps differ from the defaults keeps the three fixed points (R263). -/
theorem test_scale_other_build :
    after (exec (.scaleBrt 128) { sess with build := { buildDefaults with scaleBrt := [(128, 7)] } }) newest =
      resp .ok (.scaled 7) ∧
    after (exec (.scaleCt 219) { sess with build := { buildDefaults with scaleCt := [(219, 1), (230, 7)] } }) newest =
      resp .ok (.scaled 7) := by decide

/-! ## The rows of the data path -/

/-- The frame on the path, from offset 11 on. -/
def tail (s : State) : Option Bytes := match s.path with | some (.frame f) => some (f.drop 11) | _ => none

/-- A command operation's code at its counter. -/
def emitting (c : Byte) : State := { sess with running := some (.emit ⟨c, true, 1, none⟩ 0) }

/-- M1, M5, M9, M8, M8 (16), M16, M16 (16). -/
theorem test_codes_frames :
    after (exec (.codePowerToggle 0) (emitting 0)) tail = some (some [0xFF, 0x00, 0x01, 0x00, 0xCA, 0x18]) ∧
    after (exec (.codeCooler 3) (emitting 0x10)) tail = some (some [0xFF, 0x10, 0x02, 0x03, 0xEC, 0x4B]) ∧
    after (exec .codeWarmerStep0 (emitting 0x2A)) tail = some (some [0xFF, 0x2A, 0x03, 0x00, 0xED, 0x7D]) ∧
    after (exec (.codeWarmerW8 15) (emitting 2)) tail = some (some [0xFF, 0x02, 0x03, 0xFF, 0xDC, 0xEA]) ∧
    after (exec (.codeWarmerW16 15) (emitting 2)) tail = some (some [0xFF, 0x02, 0x02, 0xFF, 0xEF, 0xDB]) ∧
    after (exec .codeWarmerSaturateW8 (emitting 0xFF)) tail = some (some [0xFF, 0xFF, 0x03, 0xF0, 0x8C, 0x06]) ∧
    after (exec .codeWarmerSaturateW16 (emitting 0xFF)) tail = some (some [0xFF, 0xFF, 0x02, 0xF0, 0xBF, 0x37]) := by decide +kernel
/-- M11, M13, M13 (16), M14, M14 (16), M3; the frame of `0x0500` at counter 4 is computed by hand with R182 to R184. -/
theorem test_codes_frames_dimmer_and_reset :
    after (exec (.codeBrighter 1) (emitting 3)) tail = some (some [0xFF, 0x03, 0x04, 0x01, 0x7C, 0x9C]) ∧
    after (exec .codeDimmerStep0 (emitting 4)) tail = some (some [0xFF, 0x04, 0x05, 0x00, 0xDA, 0x1C]) ∧
    after (exec (.codeDimmerW8 15) (emitting 4)) tail = some (some [0xFF, 0x04, 0x05, 0xFF, 0xC4, 0xEC]) ∧
    after (exec (.codeDimmerW16 15) (emitting 4)) tail = some (some [0xFF, 0x04, 0x04, 0xFF, 0xF7, 0xDD]) ∧
    after (exec .codeDimmerSaturateW8 (emitting 5)) tail = some (some [0xFF, 0x05, 0x05, 0xF0, 0x02, 0x33]) ∧
    after (exec .codeDimmerSaturateW16 (emitting 5)) tail = some (some [0xFF, 0x05, 0x04, 0xF0, 0x31, 0x02]) ∧
    after (exec (.codeReset 0) (emitting 5)) tail = some (some [0xFF, 0x05, 0x06, 0x00, 0xB8, 0x7F]) := by decide +kernel
/-- The second frame of M16 carries counter 0. -/
theorem test_second_frame_counter :
    after (exec (.codeCooler 7) { sess with running := some (.emit ⟨0xFF, false, 2, none⟩ 0) }) tail =
      some (some [0xFF, 0x00, 0x02, 0x07, 0xEF, 0xAC]) := by decide +kernel
theorem test_frame_row :
    after (exec (.frame 0x123456 0xFF 0x00 0x0100 0xCA18) (emitting 0)) (·.running) =
      some (some (.send e1 1 0 .act (some ⟨0, true, 1, none⟩))) := by decide
/-- K1 and K3 through the stages of `LISTEN`. -/
theorem test_capture_and_payload_rows :
    after (exec (.capture k1) { sess with running := some (.listen .wait) }) (·.path) =
      some (some (.payload 0x123456FF000100CA18)) ∧
    after (exec (.payload ⟨0x123456, 0xF7, 0, 0x0100, 0xCA18⟩) { sess with running := some (.listen .wait) })
      (fun s => (newest s, s.crcReg)) =
      some (some (.report ⟨.ok, false, .received ⟨0x123456, 0xF7, 0, 0x0100, 0xCA18⟩ false⟩), 0x4FDB) := by decide +kernel
theorem test_short_capture_is_reported :
    after (exec (.capture (k1.take 11)) { sess with running := some (.listen .wait) }) newest =
      some (some (.report ⟨.frameDecodeError, false, .captureError .tooShort⟩)) := by decide

/-! ## Radio Mode Arbiter -/

/-- A session in a radio state, with one answer of `tx_inflight`. -/
def radio (r : RadioState) (b : Bool) : State := { sess with radioState := r, env := { sess.env with txInflight := [b] } }

/-- A2, A6, A7 and A4. -/
theorem test_swmode :
    after (exec (.swmode .transmitting) (radio .idle true)) (fun s => (s.radioState, s.trace)) =
      some (.transmitting, [.response ⟨.ok, false, .none⟩, .openRadio .transmitting 1,
        .configure 6 .low .mbps2 17 .disabled]) ∧
    after (exec (.swmode .listening) (radio .transmitting true)) (fun s => (s.radioState, s.trace)) =
      some (.listening, [.response ⟨.ok, false, .none⟩, .openRadio .listening 2, .configure 6 .low .mbps2 12 .disabled]) ∧
    after (exec (.swmode .transmitting) (radio .transmitting true)) (·.radioState) = some .transmitting ∧
    after (exec (.swmode .transmitting) (radio .listening false)) (·.radioState) = some .transmitting := by decide
/-- A5 and A8. -/
theorem test_swmode_busy :
    after (exec (.swmode .transmitting) (radio .listening true)) (fun s => (s.radioState, s.trace)) =
      some (.listening, [.response ⟨.receiverBusy, false, .none⟩]) ∧
    after (exec (.swmode .listening) State.reset) newest = resp .refused .none := by decide
/-- T1 and T2: the first attempt. -/
theorem test_trysw_attempt :
    after (step { radio .listening false with running := some (.trysw .transmitting false 1 .act) }) newest =
      resp .ok (.trySwitch true 1 false) ∧
    after (step { radio .listening true with running := some (.trysw .transmitting false 1 .act) }) (·.running) =
      some (some (.trysw .transmitting false 1 .wait)) := by decide
/-- T3, T4: the third attempt; T5. -/
theorem test_trysw_exhausted :
    after (step { radio .listening true with running := some (.trysw .transmitting true 3 .act) }) (·.trace) =
      some [.response ⟨.ok, false, .trySwitch false 3 true⟩, .fallback] ∧
    after (step { radio .listening true with running := some (.trysw .transmitting false 3 .act) }) (·.trace) =
      some [.response ⟨.receiverBusy, false, .trySwitch false 3 false⟩] ∧
    after (exec (.trysw .listening false) { sess with cfg := { cfg0 with maxRetries := 0 } }) newest =
      resp .receiverBusy (.trySwitch false 0 false) := by decide
/-- T6 and W6: `shutdown_req` at a sampling point. -/
theorem test_shutdown_req :
    after (step { sess with
      running := some (.trysw .transmitting false 1 .sample), env := { sess.env with shutdown := [true] } })
      (fun s => (s.inited, s.running, s.trace)) = some (false, none, [.response ⟨.ok, true, .none⟩, .release]) := by decide

/-! ## Remote Decoder -/

/-- A session with one answer of `drv.pollAvailable()`. -/
def polled (a : Option (Bytes × Nat)) : State := { sess with env := { sess.env with polls := [a] } }

/-- D1v, D3v, D4v. -/
theorem test_rxpoll :
    after (exec .rxpoll (polled none)) newest = resp .ok .nothingAvailable ∧
    after (exec .rxpoll (polled (some (k3, 1)))) (fun s => (newest s, s.crcReg)) =
      some (some (.response ⟨.ok, false, .received ⟨0x123456, 0xF7, 0, 0x0100, 0xCA18⟩ false⟩), 0x4FDB) ∧
    after (exec .rxpoll (polled (some (k1.take 11, 0)))) newest = resp .frameDecodeError (.captureError .tooShort) := by decide +kernel
/-- D5v, D6v, and R41 with a `CFG_CAP_LEN` that does not leave 72 bits. -/
theorem test_rxpoll_capture_length :
    after (exec .rxpoll (polled (some (k1 ++ [0xAA, 0xBB], 0)))) newest = resp .ok (.received p1 true) ∧
    after (exec .rxpoll { polled (some (k1, 0)) with cfg := { cfg0 with stripMsb := 16 } }) newest =
      resp .frameDecodeError (.captureError .tooShort) ∧
    after (exec .rxpoll { polled (some (k1, 0)) with cfg := { cfg0 with capLen := 13 } }) newest =
      resp .frameDecodeError (.captureError .tooShort) := by decide +kernel
theorem test_listen :
    after (exec .listen sess) (·.running) = some (some (.listen .act)) ∧
    after (step { polled (some (k4, 0)) with running := some (.listen .act) }) (fun s => (s.path, s.trace)) =
      some (some (.capture k4), [.pollAvailable]) := by decide
theorem test_listen_waits :
    after (step { sess with running := some (.listen .wait) }) (fun s => (s.running, s.trace)) =
      some (some (.listen .sample), [.wait 100]) := by decide

/-! ## Numbers of the enumerations (R110, R112) and the placing of a word -/

theorem test_enumeration_bits :
    [RadioState.idle, .listening, .transmitting].map RadioState.bits = [0, 1, 2] ∧
    [Status.ok, .hardwareUnavailable, .receiverBusy, .frameDecodeError, .refused].map Status.bits = [0, 1, 2, 3, 15] := by
  decide
/-- The first step after reset runs the word that is placed. -/
theorem test_with_fetch_word :
    after (step (State.reset.withFetchWord 8 0x22)) newest = resp .ok (.crc 0xFFFE) ∧
    after (step (State.reset.withFetchWord 72 0x123456FF000100CA18)) (·.crcReg) = some 0xCA18 ∧
    after (step (State.reset.withFetchWord 8 0x02)) newest = resp .refused .none := by decide +kernel

/-! ## Witnesses: for each obligation with hypotheses, states and operands that meet them -/

/-- A session with scripts of answers. -/
def scripted (writes shut flight : List Bool) : State :=
  { sess with env := { sess.env with writeOk := writes, shutdown := shut, txInflight := flight } }

/-- A session with `CFG_REPEAT` = `n`. -/
def repeating (n : BitVec 16) (s : State) : State := { s with cfg := { s.cfg with repeatCount := n } }

/-- Both answers, and the three cases of the conclusion. -/
theorem witness_InitStartsTheSession :
    ({ State.reset.env with connected := [true] } : Env).drawConnected = (true, State.reset.env) ∧
    ({ State.reset.env with connected := [false] } : Env).drawConnected = (false, State.reset.env) ∧
    (sess.inited = true ∨ sess.hwFault = true) ∧ (broken.inited = true ∨ broken.hwFault = true) ∧
    ¬(State.reset.inited = true ∨ State.reset.hwFault = true) ∧
    (Request.zero 0x00).op = 0x00 := by decide
theorem witness_ShutdownResetsTheBlock : (Request.zero 0x01).op = 0x01 := by decide
theorem witness_SessionOperationsRefusedOutsideASession :
    (State.reset.inited = false ∨ State.reset.hwFault = true) ∧ (broken.inited = false ∨ broken.hwFault = true) ∧
    ∃ c, Instr.pwr none = .pwr c ∨ Instr.pwr none = .rst c := ⟨by decide, by decide, none, .inl rfl⟩
theorem witness_ReservedSelectCodesAreRefused :
    ∀ op ∈ ([0x02, 0x0F, 0x13, 0x1F, 0x24, 0x2F, 0x3B, 0x3F, 0x42, 0x4F, 0x52, 0xFF] : List Byte),
      State.reset.path = none ∧ State.reset.running = none ∧
      ({ State.reset with host := [Request.zero op] } : State).host = Request.zero op :: [] ∧
      (Request.zero op).op ∉ ([0x00, 0x01, 0x10, 0x11, 0x12, 0x20, 0x21, 0x22, 0x23, 0x30, 0x31, 0x32, 0x33, 0x34, 0x35,
        0x36, 0x37, 0x38, 0x39, 0x3A, 0x40, 0x41, 0x50, 0x51] : List Byte) := by decide
theorem witness_CrcStartLoadsTheInitialValue : (Request.zero 0x20).op = 0x20 := by decide
theorem witness_CrcByteFeedsEightBits : ({ Request.zero 0x21 with b := 0x53 } : Request).op = 0x21 := by decide
theorem witness_CrcReadReturnsTheRegister : (Request.zero 0x22).op = 0x22 := by decide
/-- A window given and not given; at the end of the buffer and one past it. -/
theorem witness_CrcSumOverAWindow :
    ({ Request.zero 0x23 with winValid := true } : Request).op = 0x23 ∧ 17 + 0 ≤ e1.length ∧ 0 + 17 ≤ e1.length ∧
    ¬(17 + 1 ≤ e1.length) := by decide
theorem witness_CrcIsLinearAndInvertible : ([0x00, 0xFF] : Bytes).length = ([0x53, 0x39] : Bytes).length := by decide
/-- The last bit and the first bit of a window. -/
theorem witness_ChecksumSeesEverySingleBit : 0 < 8 * e1.length ∧ 135 < 8 * e1.length := by decide
/-- An empty window and one of two bytes. -/
theorem witness_StreamingEqualsOneShot :
    sess.path = none ∧ sess.running = none ∧
    ({ sess with host := [Request.zero 0x20, Request.zero 0x22] } : State).host =
      Request.zero 0x20 :: (([] : Bytes).map (fun b => { Request.zero 0x21 with b := b })) ++ (Request.zero 0x22 :: []) ∧
    ({ sess with host := [Request.zero 0x20, { Request.zero 0x21 with b := 0x53 }, { Request.zero 0x21 with b := 0x39 },
        Request.zero 0x22] } : State).host =
      Request.zero 0x20 :: (([0x53, 0x39] : Bytes).map (fun b => { Request.zero 0x21 with b := b })) ++
        (Request.zero 0x22 :: []) := by decide
theorem witness_EncodeBuildsTheFrame :
    ({ Request.zero 0x10 with sepValid := true } : Request).op = 0x10 ∧ sess.inited = true ∧ sess.hwFault = false := by decide
theorem witness_EveryEncodedFrameIsValid :
    ∃ t rest, exec (.encodeOp 0x123456 0x0100 0x00 (some 0xFF)) State.reset = .next t ∧
      t.trace = .response ⟨.ok, false, .frame (frameOf 0x123456 0xFF 0x00 0x0100)⟩ :: rest ∧ rest = State.reset.trace :=
  ⟨_, _, rfl, rfl, rfl⟩
/-- One byte too few, one too many, the right length, with the default constants and with none. -/
theorem witness_DecodeStripsAndUnpacks :
    8 * (k1.take 11).length < 15 + 9 + 72 ∧ 8 * (k1 ++ [0]).length > 15 + 9 + 72 ∧ 8 * k1.length = 15 + 9 + 72 ∧
    8 * (k1.take 9).length = 0 + 0 + 72 ∧ sess.inited = true ∧ sess.hwFault = false := by decide
theorem witness_DecodeIgnoresTheStrippedBits :
    8 * 12 = 15 + 9 + 72 ∧ 0 < 2 ^ 15 ∧ 0x7FFF < 2 ^ 15 ∧ 0 < 2 ^ 9 ∧ 0x1FF < 2 ^ 9 ∧ 0x123456FF000100CA18 < 2 ^ 72 := by decide
theorem witness_CaptureRoundTrip :
    sess.inited = true ∧ sess.hwFault = false ∧ sess.cfg.stripMsb = 15 ∧ sess.cfg.stripLsb = 9 := by decide
theorem witness_GoodpktRecomputesTheCrc : ({ Request.zero 0x12 with packet := p1 } : Request).op = 0x12 := by decide
/-- The good packet of frame E1. -/
theorem witness_OneInvertedBitIsNeverGood :
    119 < 120 ∧ 71 < 72 ∧ ∃ t, exec (.goodpkt p1) sess = .next t ∧ t.trace = .response ⟨.ok, false, .good true⟩ :: sess.trace :=
  ⟨by decide +kernel, by decide +kernel, _, rfl, by decide +kernel⟩
theorem witness_CommandCodeTable : 1 ≤ 1 ∧ 1 ≤ 15 ∧ 15 ≤ 15 := by decide
theorem witness_StepsAreClamped : (-1 : Int) < 0 ∧ (15 : Int) < 16 ∧ (0 : Int) ≤ 15 ∧ (15 : Int) ≤ 15 := by decide
/-- `CFG_REPEAT` = 2 with one failed write, and `CFG_REPEAT` = 0; sequences of 16 and 18 bytes. -/
theorem witness_SendRepeatsBlindly :
    (repeating 2 (scripted [false, true] [false, false] [])).inited = true ∧
    (repeating 2 (scripted [false, true] [false, false] [])).hwFault = false ∧
    (repeating 2 (scripted [false, true] [false, false] [])).path = none ∧ e1.length = 17 ∧
    (e1.take 16).length ≠ 17 ∧ (e1 ++ [0]).length ≠ 17 ∧
    [false, true].length = (repeating 2 (scripted [false, true] [false, false] [])).cfg.repeatCount.toNat ∧
    (repeating 2 (scripted [false, true] [false, false] [])).env.writeOk = [false, true] ++ [] ∧
    (repeating 2 (scripted [false, true] [false, false] [])).env.shutdown =
      List.replicate (repeating 2 (scripted [false, true] [false, false] [])).cfg.repeatCount.toNat false ++ [] ∧
    ([] : List Bool).length = (repeating 0 sess).cfg.repeatCount.toNat ∧ (repeating 0 sess).env.writeOk = [] ++ [] ∧
    (repeating 0 sess).env.shutdown = List.replicate (repeating 0 sess).cfg.repeatCount.toNat false ++ [] := by decide
/-- `WARM` with a step past the clamp, implicit counter at its last value. -/
theorem witness_OneFrameOperationsComplete :
    (Instr.warm (some 20) none, subCode .w8 0x03 (clampStep 20)) ∈
      [(Instr.pwr none, 0x01#8 ++ sess.cfg.pwrArg), (Instr.rst none, 0x06#8 ++ sess.cfg.rstArg),
      (Instr.cool (some 20) none, BitVec.ofNat 16 (0x0200 + 15)), (Instr.warm (some 20) none, subCode .w8 0x03 15),
      (Instr.brt (some 20) none, BitVec.ofNat 16 (0x0400 + 15)), (Instr.dim (some 20) none, subCode .w8 0x05 15)] ∧
    (repeating 1 (scripted [true] [false] [])).inited = true ∧ (repeating 1 (scripted [true] [false] [])).hwFault = false ∧
    [true].length = (repeating 1 (scripted [true] [false] [])).cfg.repeatCount.toNat ∧
    (repeating 1 (scripted [true] [false] [])).env.writeOk = [true] ++ [] ∧
    (repeating 1 (scripted [true] [false] [])).env.shutdown =
      List.replicate (repeating 1 (scripted [true] [false] [])).cfg.repeatCount.toNat false ++ [] := by decide
theorem witness_TwoFrameOperationsComplete :
    (Instr.setct 7 none, subCode .w8 0x03 16, BitVec.ofNat 16 (0x0200 + 7)) ∈
      [(Instr.setbrt 7 none, subCode .w8 0x05 16, BitVec.ofNat 16 (0x0400 + clampStep 7)),
        (Instr.setct 7 none, subCode .w8 0x03 16, BitVec.ofNat 16 (0x0200 + clampStep 7))] ∧
    (repeating 1 (scripted [true, false] [false, false] [])).inited = true ∧
    (repeating 1 (scripted [true, false] [false, false] [])).hwFault = false ∧
    [true, false].length = 2 * (repeating 1 (scripted [true, false] [false, false] [])).cfg.repeatCount.toNat ∧
    (repeating 1 (scripted [true, false] [false, false] [])).env.writeOk = [true, false] ++ [] ∧
    (repeating 1 (scripted [true, false] [false, false] [])).env.shutdown =
      List.replicate (2 * (repeating 1 (scripted [true, false] [false, false] [])).cfg.repeatCount.toNat) false ++ [] := by
  decide
/-- The three kinds of sampling point. -/
theorem witness_ShutdownRequestAbandonsTheOperation :
    (scripted [] [true] []).path = none ∧ (scripted [] [true] []).env.drawShutdown = (true, sess.env) ∧
    ({ scripted [] [true] [] with running := some (.send e1 3 0 .sample none) } : State).running =
      some (.send e1 3 0 .sample none) ∧
    ({ scripted [] [true] [] with running := some (.trysw .transmitting true 1 .sample) } : State).running =
      some (.trysw .transmitting true 1 .sample) ∧
    ({ scripted [] [true] [] with running := some (.listen .sample) } : State).running = some (.listen .sample) := by decide
theorem witness_ScaleBrightness :
    ((-1 : Int) < 0 ∨ (255 : Int) < -1) ∧ ((256 : Int) < 0 ∨ (255 : Int) < 256) ∧ (0 : Int) ≤ 0 ∧ (0 : Int) ≤ 255 ∧
    (255 : Int) ≤ 255 ∧ State.reset.build.scaleBrt = [] := by decide
theorem witness_ScaleColourTemperature :
    ((152 : Int) < 153 ∨ (370 : Int) < 152) ∧ ((371 : Int) < 153 ∨ (370 : Int) < 371) ∧ (153 : Int) ≤ 219 ∧
    (219 : Int) ≤ 370 ∧ (370 : Int) ≤ 370 ∧ State.reset.build.scaleCt = [] ∧ scaleCtOf buildDefaults 153 = 15 ∧
    scaleCtOf buildDefaults 219 = 7 ∧ scaleCtOf buildDefaults 370 = 0 := by decide
/-- Busy, not busy out of `Listening`, and out of `Idle` whatever the sample. -/
theorem witness_SwmodeTransitionTable :
    (radio .listening true).inited = true ∧ (radio .listening true).hwFault = false ∧
    (radio .listening true).env.drawInflight = (true, sess.env) ∧ (radio .listening true).radioState = .listening ∧
    (radio .listening false).env.drawInflight = (false, sess.env) ∧
    ((radio .idle true).radioState ≠ .listening ∨ true = false) ∧
    ((radio .listening false).radioState ≠ .listening ∨ false = false) := by decide
theorem witness_TryswStartsOrIsExhaustedAtOnce :
    sess.inited = true ∧ sess.hwFault = false ∧ sess.cfg.maxRetries ≠ 0 ∧
    ({ sess with cfg := { cfg0 with maxRetries := 0 } } : State).cfg.maxRetries = 0 := by decide
/-- Three busy attempts (T3), and a bound of one. -/
theorem witness_TryswExhaustsItsBound :
    ({ scripted [] [false, false] [true, true, true] with radioState := .listening } : State).radioState = .listening ∧
    sess.inited = true ∧ sess.hwFault = false ∧ sess.path = none ∧ sess.cfg.maxRetries.toNat = 2 + 1 ∧
    (scripted [] [false, false] [true, true, true]).env.txInflight = List.replicate (2 + 1) true ++ [] ∧
    (scripted [] [false, false] [true, true, true]).env.shutdown = List.replicate 2 false ++ [] ∧
    (1 : BitVec 8).toNat = 0 + 1 := by decide
/-- T1 and T2b. -/
theorem witness_TryswSucceedsAtTheFirstFreeAttempt :
    ({ scripted [] [false, false] [true, true, false] with radioState := .listening } : State).radioState = .listening ∧
    sess.inited = true ∧ sess.hwFault = false ∧ sess.path = none ∧ 2 < sess.cfg.maxRetries.toNat ∧
    (scripted [] [false, false] [true, true, false]).env.txInflight = List.replicate 2 true ++ (false :: []) ∧
    (scripted [] [false, false] [true, true, false]).env.shutdown = List.replicate 2 false ++ [] ∧
    0 < sess.cfg.maxRetries.toNat ∧ (scripted [] [] [false]).env.txInflight = List.replicate 0 true ++ (false :: []) := by decide
theorem witness_TryswFirstAttemptSucceeds :
    (radio .listening true).inited = true ∧ (radio .listening true).hwFault = false ∧ (radio .listening true).path = none ∧
    (radio .listening true).cfg.maxRetries ≠ 0 ∧
    (Direction.listening = .listening ∨ (radio .listening true).radioState ≠ .listening) ∧
    (Direction.transmitting = .listening ∨ (radio .idle true).radioState ≠ .listening) ∧
    (radio .listening true).env.drawInflight = (true, sess.env) := by decide
/-- A request that is no `SWMODE`, and a shutdown. -/
theorem witness_OnlyTheArbiterSwitchesTheRadio :
    (∃ t, step { sess with host := [Request.zero 0x30] } = .next t) ∧
    (¬ ∃ item d, fetch { sess with host := [Request.zero 0x30] } = some item ∧ decode item = .ok (.swmode d)) ∧
    (¬ ∃ d fb n, fetch { sess with host := [Request.zero 0x30] } = none ∧
      ({ sess with host := [Request.zero 0x30] } : State).running = some (.trysw d fb n .act)) := by
  refine ⟨⟨_, rfl⟩, ?_, ?_⟩
  · rintro ⟨item, d, h, hd⟩
    obtain rfl : Item.request (Request.zero 0x30) = item := Option.some.inj h
    exact absurd hd (by rw [show decode (.request (Request.zero 0x30)) = .ok (.pwr none) from rfl]; simp)
  · rintro ⟨d, fb, n, h, -⟩
    exact absurd h (by decide)
/-- `CFG_CAP_LEN` of the session with another value loaded. -/
def capLenOf (n : BitVec 8) : Nat := ({ cfg0 with capLen := n } : SessionConfig).capLen.toNat

/-- Nothing available; an answer one byte short, and of the right length; a `CFG_CAP_LEN` that leaves too few bits, too many,
and 72. -/
theorem witness_RxpollReportsOneCapture :
    (polled none).inited = true ∧ (polled none).hwFault = false ∧ (polled none).running = none ∧
    (polled none).env.drawPoll = (none, sess.env) ∧ (polled (some (k1, 0))).env.drawPoll = (some (k1, 0), sess.env) ∧
    ((k1.take 11).length < sess.cfg.capLen.toNat ∨ 8 * 12 < 15 + 9 + 72) ∧
    (k1.length < capLenOf 11 ∨ 8 * capLenOf 11 < sess.cfg.stripMsb.toNat + sess.cfg.stripLsb.toNat + 72) ∧
    capLenOf 13 ≤ (k1 ++ [0]).length ∧ sess.cfg.stripMsb.toNat + sess.cfg.stripLsb.toNat + 72 < 8 * capLenOf 13 ∧
    sess.cfg.capLen.toNat ≤ k1.length ∧
    8 * sess.cfg.capLen.toNat = sess.cfg.stripMsb.toNat + sess.cfg.stripLsb.toNat + 72 ∧
    8 * capLenOf 13 ≠ sess.cfg.stripMsb.toNat + sess.cfg.stripLsb.toNat + 72 := by decide
theorem witness_ListenReportsWhatRxpollAnswers :
    (polled (some (k1, 0))).inited = true ∧ (polled (some (k1, 0))).hwFault = false ∧ (polled (some (k1, 0))).path = none ∧
    (polled (some (k1, 0))).running = none := by decide
/-- Each phase, and a capture and a payload on the path. -/
theorem witness_ListenEndsOnlyByShutdown :
    (∀ ph ∈ [LoopPhase.act, .wait, .sample], ({ sess with running := some (.listen ph) } : State).running =
      some (.listen ph) ∧ ({ sess with running := some (.listen ph) } : State).path = none) ∧
    (∃ raw, ({ sess with path := some (.capture k1) } : State).path = some (.capture raw)) ∧
    ∃ p, ({ sess with path := some (.payload 0) } : State).path = some (.payload p) :=
  ⟨by decide, ⟨_, rfl⟩, _, rfl⟩
theorem witness_EveryListedCodeIsBuiltIntoAFrame :
    (emitting 0).running = some (.emit ⟨0, true, 1, none⟩ 0) ∧ ((1 : Nat) = 1 ∨ (1 : Nat) = 2) ∧ ((2 : Nat) = 1 ∨ (2 : Nat) = 2) ∧
    (Instr.codeReset 0, (0x0600 : BitVec 16)) ∈ [(Instr.codeWarmerStep0, (0x0300 : BitVec 16)),
      (Instr.codeReset 0, 0x06#8 ++ (0x00 : Byte))] := by decide
/-- `CFG_REPEAT` not 0, and 0 with and without a second code. -/
theorem witness_AFrameOnThePathIsTransmitted :
    (emitting 0).running = some (.emit ⟨0, true, 1, none⟩ 0) ∧ (emitting 0).cfg.repeatCount ≠ 0 ∧
    (repeating 0 (emitting 0)).cfg.repeatCount = 0 ∧ (⟨0, true, 1, none⟩ : Command).nextCode = none ∧
    (⟨0, true, 1, some 0x040A⟩ : Command).nextCode = some 0x040A := by decide
theorem witness_CapturesAndPayloadsAreReported :
    ({ sess with running := some (.listen .wait) } : State).running = some (.listen .wait) ∧
    sess.cfg.capLen.toNat ≤ k1.length ∧ 8 * k1.length = sess.cfg.stripMsb.toNat + sess.cfg.stripLsb.toNat + 72 ∧
    (k1.take 11).length < sess.cfg.capLen.toNat ∧ 8 * (k1.take 11).length < sess.cfg.stripMsb.toNat + sess.cfg.stripLsb.toNat + 72 ∧
    sess.cfg.capLen.toNat ≤ (k1 ++ [0]).length ∧ 8 * (k1 ++ [0]).length > sess.cfg.stripMsb.toNat + sess.cfg.stripLsb.toNat + 72 := by decide
theorem witness_WordsOutsideAnOperation :
    sess.running = none ∧ encode (.codeCooler 3) = .code 0x0203 ∧
    encode (.frame 0x123456 0xFF 0x00 0x0100 0xCA18) = .frame e1 ∧ Instr.capture k1 = .capture k1 ∧
    Instr.payload p1 = .payload p1 := by decide
theorem witness_MisplacedWordsStop :
    ({ sess with running := some (.listen .act) } : State).running = some (.listen .act) ∧
    (∃ w, encode (.codeCooler 3) = .code w) ∧ (∀ c fails, Running.listen .act ≠ .emit c fails) ∧
    (∃ raw, Instr.capture k1 = .capture raw) ∧ ∀ ph, Running.send e1 1 0 .act none ≠ .listen ph :=
  ⟨rfl, ⟨_, rfl⟩, fun _ _ => by simp, ⟨_, rfl⟩, fun _ => by simp⟩
theorem witness_DecodeOfEncode :
    (Instr.send e1).wellFormed = true ∧ (Instr.codeWarmerW8 1).wellFormed = true ∧ (Instr.capture []).wellFormed = true := by decide
theorem witness_EncodeOfDecode :
    decode (.frame e1) = .ok (.frame 0x123456 0xFF 0x00 0x0100 0xCA18) ∧ decode (.code 0x03F1) = .ok (.codeWarmerW8 1) ∧
    decode (.code 0x03F0) = .ok .codeWarmerSaturateW8 := by decide
theorem witness_StepRunsTheDecodedInstruction :
    sess.path = none ∧ sess.running = none ∧ sess.host = [] ∧
    ({ sess with host := [Request.zero 0x22] } : State).host = Request.zero 0x22 :: [] ∧
    decode (.request (Request.zero 0x22)) = .ok .crcRead ∧
    ({ sess with path := some (.code 0x0100) } : State).path = some (.code 0x0100) ∧
    decode (.code 0x0100) = .ok (.codePowerToggle 0) := by decide
/-- An operation that runs, a word on the path, an idle block. -/
theorem witness_OneOperationAtATime :
    (∃ t, step { sess with running := some (.listen .wait) } = .next t) ∧
    ({ sess with running := some (.listen .wait) } : State).running ≠ none ∧
    (∃ t, step { emitting 0 with path := some (.code 0x0100) } = .next t) ∧
    ({ emitting 0 with path := some (.code 0x0100) } : State).path ≠ none ∧
    (∃ t, step { sess with host := [Request.zero 0x22] } = .next t) :=
  ⟨⟨_, rfl⟩, by decide, ⟨_, rfl⟩, by decide, _, rfl⟩
theorem witness_EventsAreOnlyAdded : ∃ t, step { sess with host := [Request.zero 0x01] } = .next t := ⟨_, rfl⟩
/-- A step inside the session, and one that ends it. -/
theorem witness_SessionRegistersAreFixed :
    (∃ t, step { sess with host := [Request.zero 0x30] } = .next t) ∧
    (∃ t, step { sess with host := [Request.zero 0x01] } = .next t) ∧ sess.inited = true := ⟨⟨_, rfl⟩, ⟨_, rfl⟩, rfl⟩
theorem witness_SequenceCounterMovesOnlyAtTheEnd :
    ∃ t, step { scripted [] [false] [] with running := some (.send e1 20 0 .sample (some ⟨0xFF, true, 1, none⟩)) } = .next t ∧
      (scripted [] [false] []).inited = true ∧ t.inited = true ∧ t.seqCtr ≠ (scripted [] [false] []).seqCtr :=
  ⟨_, rfl, rfl, rfl, by decide⟩
theorem witness_OtherOperationsLeaveTheCrcRegister :
    (∃ t, exec (.decodeOp k1 none) sess = .next t) ∧
    (∃ t, step { sess with running := some (.send e1 1 0 .wait none) } = .next t) ∧ sess.path = none ∧
    (∃ t, step { radio .listening true with running := some (.trysw .transmitting true 1 .act) } = .next t) :=
  ⟨⟨_, rfl⟩, ⟨_, rfl⟩, rfl, _, rfl⟩

/-- A `PWR` whose first repetition is under way. -/
def mid : State :=
  { scripted [true] [false] [] with
    running := some (.send (frameOf 0x123456 0xFF 0x00 0x0100) 1 0 .act (some ⟨0x00, true, 1, none⟩)) }

theorem mid_inv : mid.Inv where
  oneOfTwo := by decide
  noSession := fun h => absurd h (by decide)
  indices := by
    show (frameOf 0x123456 0xFF 0x00 0x0100).length = frameLen ∧ 1 ≤ 1 ∧ 1 ≤ mid.cfg.repeatCount.toNat ∧ _
    refine ⟨by decide, le_rfl, by decide, by decide, ?_⟩
    rintro c hc
    obtain rfl := Option.some.inj hc
    exact ⟨⟨.inl rfl, fun w hw => absurd hw (by simp)⟩, 0x0100, rfl⟩
  onPath := trivial
  radio := rfl

theorem witness_EveryStepKeepsTheInvariant : mid.Inv ∧ ∃ t, step mid = .next t := ⟨mid_inv, _, rfl⟩
theorem witness_TheBlockNeverStops : mid.Inv := mid_inv

end Sys2Proof.Tests
end

/-! ## The kinds of instructions

`encode` says what an instruction stands for: a request, a code, a frame, a payload or a capture. The lemmas here say what
the decoder makes of each kind of item, and what `exec` does with each kind of instruction. -/

namespace Sys2Proof.Machine

/-! What the decoder reads from an item is an instruction of the item's kind. -/

theorem decode_request_kind {r : Request} {i : Instr} (h : decode (.request r) = .ok i) :
    ∃ r', encode i = .request r' := by
  simp only [decode, decodeRequest] at h
  split at h
  · next f hf =>
    obtain ⟨_, _, hmem, -⟩ := List.lookup_eq_some_iff.mp hf
    have hf : f ∈ opTable.map Prod.snd := by simp [hmem]
    have hkind : ∀ g ∈ opTable.map Prod.snd, ∃ r', encode (g r) = .request r' := by simp [opTable, encode]
    obtain rfl := Except.ok.inj h
    exact hkind f hf
  · exact nomatch h

theorem decode_code_kind {w : BitVec 16} {i : Instr} (h : decode (.code w) = .ok i) : ∃ w', encode i = .code w' := by
  simp only [decode, decodeCode] at h
  split at h
  · next row hrow =>
    have hkind : ∀ row ∈ codeTable, ∃ w', encode (row.instr w) = .code w' := by simp [codeTable, encode]
    obtain rfl := Except.ok.inj h
    exact hkind row (List.mem_of_find?_eq_some hrow)
  · exact nomatch h

/-! What `exec` does with a word of the data path. -/

theorem exec_of_encode_code {i : Instr} {w : BitVec 16} (h : encode i = .code w) (s : State) : exec i s = emitCode w s := by
  cases i <;> cases h <;> rfl

theorem exec_of_encode_frame {i : Instr} {f : Bytes} (h : encode i = .frame f) (s : State) : exec i s = emitFrame f s := by
  cases i <;> cases h; rfl

theorem eq_payload_of_encode {i : Instr} {p : BitVec payloadBits} (h : encode i = .payload p) :
    ∃ q, i = .payload q := by
  cases i <;> cases h; exact ⟨_, rfl⟩

theorem eq_capture_of_encode {i : Instr} {raw : Bytes} (h : encode i = .capture raw) : i = .capture raw := by
  cases i <;> cases h; rfl

theorem emitCode_cases {w : BitVec 16} {s t : State} (h : emitCode w s = .next t) :
    (∃ c fails, s.running = some (.emit c fails) ∧ t = buildFrame w c.frameCounter s) ∨
    (s.running = none ∧ t = (buildFrame w s.seqCtr s).putRunning (some (.emit ⟨s.seqCtr, true, 1, none⟩ 0))) ∨
    (s.running = none ∧ t = refuse s) := by
  unfold emitCode at h
  split at h
  · next c fails hr => exact .inl ⟨c, fails, hr, (Host.Outcome.next.inj h).symm⟩
  · next hr =>
    obtain rfl := Host.Outcome.next.inj h
    split
    · exact .inr (.inl ⟨hr, rfl⟩)
    · exact .inr (.inr ⟨hr, rfl⟩)
  · exact nomatch h

theorem emitFrame_cases {f : Bytes} {s t : State} (h : emitFrame f s = .next t) :
    (∃ c fails, s.running = some (.emit c fails) ∧ t = beginSend f fails (some c) s) ∨
    (s.running = none ∧ t = beginSend f 0 none s) ∨ (s.running = none ∧ t = refuse s) := by
  unfold emitFrame at h
  split at h
  · next c fails hr => exact .inl ⟨c, fails, hr, (Host.Outcome.next.inj h).symm⟩
  · next hr =>
    obtain rfl := Host.Outcome.next.inj h
    split
    · exact .inr (.inl ⟨hr, rfl⟩)
    · exact .inr (.inr ⟨hr, rfl⟩)
  · exact nomatch h

/-- A report adds one event and nothing else. -/
theorem deliver_eq (r : Response) (s : State) : ∃ e, deliver r s = { s with trace := e :: s.trace } := by
  rcases deliver_cases r s with ⟨-, -, he⟩ | ⟨-, he⟩
  · exact ⟨_, he⟩
  · exact ⟨_, he⟩

theorem validate_eq (p : DecodedPacket) (s : State) :
    ∃ e, validate p s = { s with crcReg := packetCrc p, trace := e :: s.trace } :=
  deliver_eq _ (s.putCrc (packetCrc p))

theorem execPayload_cases {p : DecodedPacket} {s t : State} (h : execPayload p s = .next t) :
    ∃ e, t = { s with crcReg := packetCrc p, trace := e :: s.trace } := by
  obtain ⟨e, he⟩ := validate_eq p s
  unfold execPayload at h
  split at h
  · exact ⟨e, (Host.Outcome.next.inj h).symm.trans he⟩
  · exact ⟨e, (Host.Outcome.next.inj h).symm.trans he⟩
  · exact nomatch h

/-- The strip stage leaves the payload on the path, or answers with one event. -/
theorem stripStage_eq (raw : Bytes) (s : State) : (∃ p, stripStage raw s = { s with path := some (.payload p) }) ∨
    ∃ e, stripStage raw s = { s with trace := e :: s.trace } := by
  rcases stripStage_cases raw s with ⟨p, -, he⟩ | ⟨d, -, he⟩
  · exact .inl ⟨p, he⟩
  · rw [he]; exact .inr (deliver_eq _ s)

theorem execCapture_cases {raw : Bytes} {s t : State} (h : execCapture raw s = .next t) :
    (∃ p, t = { s with path := some (.payload p) }) ∨ ∃ e, t = { s with trace := e :: s.trace } := by
  unfold execCapture at h
  split at h
  · obtain rfl := Host.Outcome.next.inj h
    exact stripStage_eq raw s
  · obtain rfl := Host.Outcome.next.inj h
    split
    · exact stripStage_eq raw s
    · exact .inr ⟨_, rfl⟩
  · exact nomatch h

/-! A word of the running operation is never misplaced. -/

theorem emitCode_of_emit {s : State} {c : Command} {fails : Nat} (h : s.running = some (.emit c fails)) (w : BitVec 16) :
    emitCode w s = .next (buildFrame w c.frameCounter s) := by simp [emitCode, h]

theorem emitFrame_of_emit {s : State} {c : Command} {fails : Nat} (h : s.running = some (.emit c fails)) (f : Bytes) :
    emitFrame f s = .next (beginSend f fails (some c) s) := by simp [emitFrame, h]

theorem execCapture_of_listen {s : State} {ph : LoopPhase} (h : s.running = some (.listen ph)) (raw : Bytes) :
    execCapture raw s = .next (stripStage raw s) := by simp [execCapture, h]

theorem execPayload_of_listen {s : State} {ph : LoopPhase} (h : s.running = some (.listen ph)) (p : DecodedPacket) :
    execPayload p s = .next (validate p s) := by simp [execPayload, h]

/-! Every code that a command operation emits is in the table of R102. -/

theorem append_and_codeMask (f p : Byte) : (f ++ p : BitVec (8 + 8)) &&& codeMask 8 = f ++ 0#8 := by
  have hmask : codeMask 8 = 0xFF#8 ++ 0#8 := rfl
  have hand (a b c d : Byte) : (a ++ b) &&& (c ++ d) = (a &&& c) ++ (b &&& d) := by
    ext i hi
    simp only [BitVec.getElem_and, BitVec.getElem_append]
    split <;> simp
  rw [hmask, hand, show f &&& 0xFF#8 = f from BitVec.and_allOnes, BitVec.and_zero]

theorem listedCode_of_row {w : BitVec 16} {row : CodeRow} (hm : row ∈ codeTable) (ht : row.takes w = true) :
    listedCode w := by
  have hsome := List.find?_isSome (p := fun row : CodeRow => row.takes w).mpr ⟨row, hm, ht⟩
  obtain ⟨first, hfirst⟩ := Option.isSome_iff_exists.mp hsome
  exact ⟨first.instr w, by rw [decodeCode, hfirst]⟩

theorem listedCode_iff (w : BitVec 16) : listedCode w ↔ (decodeCode w).isOk = true := by
  unfold listedCode
  cases decodeCode w <;> simp [Except.isOk, Except.toBool]

theorem listedCode_power (p : Byte) : listedCode (addCode familyPower p.toNat) := by
  apply listedCode_of_row (row := ⟨codeMask 8, addCode familyPower 0, fun w => .codePowerToggle (w.extractLsb' 0 8)⟩)
  · simp [codeTable]
  · simp only [CodeRow.takes, addCode_power, append_and_codeMask]; rfl

theorem listedCode_reset (r : Byte) : listedCode (addCode familyReset r.toNat) := by
  apply listedCode_of_row (row := ⟨codeMask 8, addCode familyReset 0, fun w => .codeReset (w.extractLsb' 0 8)⟩)
  · simp [codeTable]
  · simp only [CodeRow.takes, addCode_reset, append_and_codeMask]; rfl

theorem clampStep_lt (v : Int) : clampStep v < 16 := by
  unfold clampStep clamp stepMin stepMax
  omega

/-- `cooler` and `brighter` of a clamped step. -/
theorem listedCode_addStep {family : Nat} (hf : family ∈ [familyCooler, familyBrighter]) (v : Int) :
    listedCode (addCode family (clampStep v)) := by
  have hall : ∀ family ∈ [familyCooler, familyBrighter], ∀ t < 16,
      (decodeCode (addCode family t)).isOk = true := by decide
  exact (listedCode_iff _).mpr (hall family hf _ (clampStep_lt v))

/-- `warmer` and `dimmer` of a step up to `SAT_STEP`, at both widths of the borrow. -/
theorem listedCode_subStep {family : Nat} (hf : family ∈ [familyWarmer, familyDimmer]) (w : SubWidth) {t : Nat}
    (ht : t ≤ satStep) : listedCode (subCode w family t) := by
  have hall : ∀ family ∈ [familyWarmer, familyDimmer], ∀ t < 17,
      (decodeCode (subCode .w8 family t)).isOk = true ∧ (decodeCode (subCode .w16 family t)).isOk = true := by decide
  obtain ⟨h8, h16⟩ := hall family hf t (Nat.lt_succ_of_le ht)
  cases w with
  | w8 => exact (listedCode_iff _).mpr h8
  | w16 => exact (listedCode_iff _).mpr h16

/-! What an operation of the host can do. -/

/-- All that a request can do in the step that executes it. -/
inductive OpEffect (s : State) : State → Prop
  /-- It is answered, or refused: besides `crc_reg` no register changes. -/
  | answers (crc : BitVec 16) (e : Env) (tr : List Event) : OpEffect s { s with crcReg := crc, env := e, trace := tr }
  /-- `INIT` finds no transceiver (R372). -/
  | faults (h : initAllowed s = true) (e : Env) (tr : List Event) :
      OpEffect s { s with hwFault := true, env := e, trace := tr }
  /-- `INIT` starts the session (R372). -/
  | opens (h : initAllowed s = true) (id : BitVec 24) (q : Byte) (c : SessionConfig) (e : Env) (tr : List Event) :
      OpEffect s { s.openSession id q c with env := e, trace := tr }
  /-- `SHUTDOWN` (R374). -/
  | shutsDown (ρ : Response) : OpEffect s ((shutDown s).respond ρ)
  /-- A command operation puts its first code onto the data path (R227, R240). -/
  | startsCommand (h : ready s = true) (code : BitVec 16) (next : Option (BitVec 16)) (ctr : Option Byte)
      (listed : listedCode code) (listedNext : ∀ w, next = some w → listedCode w) :
      OpEffect s (startCommand code next ctr s)
  /-- `SEND` is at the head of its loop (R225). -/
  | startsSend (h : ready s = true) (f : Bytes) (len : f.length = frameLen) : OpEffect s (beginSend f 0 none s)
  /-- `SWMODE` makes its switch (R272). -/
  | switches (h : ready s = true) (d : Direction) (e : Env) (tr : List Event) :
      OpEffect s { switchTo d s with env := e, trace := tr }
  /-- `TRYSW` is at the head of its loop (R280). -/
  | startsTrysw (h : ready s = true) (bound : s.cfg.maxRetries ≠ 0) (d : Direction) (fb : Bool) :
      OpEffect s (s.putRunning (some (.trysw d fb 1 .act)))
  /-- `TRYSW` without attempts is over at once (R285). -/
  | exhausts (fb : Bool) : OpEffect s (exhausted fb 0 s)
  /-- `LISTEN` is at the head of its loop (R314). -/
  | startsListen (h : ready s = true) : OpEffect s (s.putRunning (some (.listen .act)))

namespace OpEffect

variable {s t : State}

theorem refused : OpEffect s (refuse s) := .answers _ _ _

theorem responds (ρ : Response) : OpEffect s (s.respond ρ) := .answers _ _ _

/-- An operation with a condition is refused where the condition fails. -/
theorem guarded {p : Prop} [Decidable p] (h : p → OpEffect s t) : OpEffect s (if p then t else refuse s) := by
  split
  · next hp => exact h hp
  · exact refused

theorem command (code : BitVec 16) (next : Option (BitVec 16)) (ctr : Option Byte) (listed : listedCode code)
    (listedNext : ∀ w, next = some w → listedCode w) : OpEffect s (startCommand code next ctr s) := by
  by_cases h : ready s = true
  · exact .startsCommand h code next ctr listed listedNext
  · rw [startCommand, if_neg h]; exact refused

theorem init (id : BitVec 24) (q : Byte) (c : SessionConfig) (h : initAllowed s = true) :
    OpEffect s (initWith (drvIsConnected s).1 id q c (drvIsConnected s).2) := by
  unfold initWith
  split
  · exact .opens h id q c _ _
  · exact .faults h _ _

theorem decodeOp (m l : Nat) (raw : Bytes) : OpEffect s (decodeWith m l raw s) := by
  unfold decodeWith
  split
  · exact responds _
  · exact responds _

theorem swmode (d : Direction) (h : ready s = true) : OpEffect s (switchReply (attemptSwitch d s)) := by
  rcases attemptSwitch_cases d s with ⟨he, -⟩ | ⟨he, -⟩
  · rw [he]; exact .answers _ _ _
  · rw [he]; exact .switches h d _ _

theorem trysw (d : Direction) (fb : Bool) (h : ready s = true) :
    OpEffect s (if s.cfg.maxRetries = 0 then exhausted fb 0 s else s.putRunning (some (.trysw d fb 1 .act))) := by
  split
  · exact .exhausts fb
  · next hb => exact .startsTrysw h hb d fb

theorem receives : OpEffect s (receive (drvPoll s).1 (drvPoll s).2) := by
  rcases receive_cases (drvPoll s).1 (drvPoll s).2 with ⟨-, he⟩ | ⟨_, _, d, -, -, he⟩ | ⟨_, _, p, -, -, he⟩
  · rw [he]; exact .answers _ _ _
  · obtain ⟨e, hd⟩ := deliver_eq (reply .frameDecodeError (.captureError d)) (drvPoll s).2
    rw [he, discardCapture, hd]; exact .answers _ _ _
  · obtain ⟨e, hv⟩ := validate_eq (unpackPayload p) (drvPoll s).2
    rw [he, hv]; exact .answers _ _ _


end OpEffect

/-- Every operation leads to a next state, and this is all it can do. -/
theorem exec_operation {i : Instr} {r : Request} (h : encode i = .request r) (s : State) :
    ∃ t, exec i s = .next t ∧ OpEffect s t := by
  have hcool (v : Int) := listedCode_addStep (family := familyCooler) (by simp) v
  have hbrt (v : Int) := listedCode_addStep (family := familyBrighter) (by simp) v
  have hwarm {t : Nat} := listedCode_subStep (family := familyWarmer) (by simp) s.build.subWidth (t := t)
  have hdim {t : Nat} := listedCode_subStep (family := familyDimmer) (by simp) s.build.subWidth (t := t)
  have hclamp (v : Int) : clampStep v ≤ satStep := (clampStep_lt v).le
  have hone : ∀ w, (none : Option (BitVec 16)) = some w → listedCode w := nofun
  have htwo (c : BitVec 16) (hc : listedCode c) : ∀ w, some c = some w → listedCode w := by rintro _ ⟨⟩; exact hc
  cases i with
  | init id q c => exact ⟨_, rfl, .guarded (.init id q c)⟩
  | shutdown => exact ⟨_, rfl, .shutsDown _⟩
  | encodeOp id code counter sep =>
    show ∃ t, execEncode id code counter sep s = .next t ∧ _
    unfold execEncode
    split
    · exact ⟨_, rfl, .answers _ _ _⟩
    · exact ⟨_, rfl, .refused⟩
  | decodeOp raw strip =>
    show ∃ t, execDecode raw strip s = .next t ∧ _
    unfold execDecode
    split
    · exact ⟨_, rfl, .decodeOp _ _ _⟩
    · exact ⟨_, rfl, .refused⟩
  | goodpkt p => exact ⟨_, rfl, .answers _ _ _⟩
  | crcStart => exact ⟨_, rfl, .answers _ _ _⟩
  | crcByte b => exact ⟨_, rfl, .answers _ _ _⟩
  | crcRead => exact ⟨_, rfl, .answers _ _ _⟩
  | crcSum w win =>
    show ∃ t, execCrcSum w win s = .next t ∧ _
    unfold execCrcSum
    split
    · exact ⟨_, rfl, .answers _ _ _⟩
    · exact ⟨_, rfl, .refused⟩
  | pwr ctr => exact ⟨_, rfl, .command _ _ ctr (listedCode_power _) hone⟩
  | cool step ctr => exact ⟨_, rfl, .command _ _ ctr (hcool _) hone⟩
  | warm step ctr => exact ⟨_, rfl, .command _ _ ctr (hwarm (hclamp _)) hone⟩
  | brt step ctr => exact ⟨_, rfl, .command _ _ ctr (hbrt _) hone⟩
  | dim step ctr => exact ⟨_, rfl, .command _ _ ctr (hdim (hclamp _)) hone⟩
  | rst ctr => exact ⟨_, rfl, .command _ _ ctr (listedCode_reset _) hone⟩
  | setbrt v ctr => exact ⟨_, rfl, .command _ _ ctr (hdim le_rfl) (htwo _ (hbrt v))⟩
  | setct v ctr => exact ⟨_, rfl, .command _ _ ctr (hwarm le_rfl) (htwo _ (hcool v))⟩
  | send f => exact ⟨_, rfl, .guarded fun ⟨hs, hf⟩ => .startsSend hs f hf⟩
  | scaleBrt b => exact ⟨_, rfl, .guarded fun _ => .responds _⟩
  | scaleCt m => exact ⟨_, rfl, .guarded fun _ => .responds _⟩
  | swmode d => exact ⟨_, rfl, .guarded (.swmode d)⟩
  | trysw d fb => exact ⟨_, rfl, .guarded (.trysw d fb)⟩
  | rxpoll => exact ⟨_, rfl, .guarded fun _ => .receives⟩
  | listen => exact ⟨_, rfl, .guarded .startsListen⟩
  | _ => exact nomatch h

end Sys2Proof.Machine

/-! ## What a step inside a session does to the registers of the session -/

namespace Sys2Proof.Machine

/-- The registers that a session fixes are the same in both states (R40, R24, R26, R27). -/
structure SameSession (s t : State) : Prop where
  cfg : t.cfg = s.cfg
  devId : t.devId = s.devId
  hwFault : t.hwFault = s.hwFault
  inited : t.inited = s.inited

/-- The command operation `c` runs: its word is on the data path or its frame is being sent. -/
def State.runsCommand (s : State) (c : Command) : Prop :=
  (∃ fails, s.running = some (.emit c fails)) ∨ ∃ f rep fails ph, s.running = some (.send f rep fails ph (some c))

/-- All that a step inside a session can do to the registers of the session and to `seq_ctr`. -/
inductive SessionStep (s t : State) : Prop
  /-- The registers stay; where `t` is `s` with other fields written, by reflexivity. -/
  | keeps (same : SameSession s t := by exact ⟨rfl, rfl, rfl, rfl⟩) (seq : t.seqCtr = s.seqCtr := by rfl)
  /-- The last frame of a command operation is sent (R224). -/
  | endsCommand (same : SameSession s t) (c : Command) (runs : s.runsCommand c) (last : c.nextCode = none)
      (ended : t.running = none) (seq : t.seqCtr = c.seqAfter s.seqCtr)
  /-- The block is reset, after `drv.release()` (R374, R375). -/
  | endsSession (b : Build) (e : Env) (h : List Request) (ρ : Response)
      (reset : t = { State.reset with build := b, env := e, host := h, trace := .response ρ :: .release :: s.trace })

namespace SessionStep

variable {s t : State}

/-- Taking an item, or an answer of the environment, is no part of the registers. -/
theorem of_boundary {p : Option Item} {h : List Request} {e : Env}
    (hs : SessionStep { s with path := p, host := h, env := e } t) : SessionStep s t := by
  cases hs with
  | keeps same seq => exact .keeps ⟨same.cfg, same.devId, same.hwFault, same.inited⟩ seq
  | endsCommand same c runs last ended seq =>
    exact .endsCommand ⟨same.cfg, same.devId, same.hwFault, same.inited⟩ c runs last ended seq
  | endsSession b e h ρ reset => exact .endsSession b e h ρ reset

theorem of_abort (e : Env) : SessionStep s (abort { s with env := e }) := .endsSession _ _ _ _ (abort_eq _)

theorem of_commandSent {c : Command} (runs : s.runsCommand c) (fails : Nat) : SessionStep s (commandSent c fails s) := by
  rcases commandSent_cases c fails s with ⟨w, -, he⟩ | ⟨hnext, he⟩
  · rw [he]; exact .keeps
  · rw [he]; exact .endsCommand ⟨rfl, rfl, rfl, rfl⟩ c runs hnext rfl rfl

/-- The end of a repetition loop: of a command operation that runs, or of a `SEND` of its own. -/
theorem of_sendDone {cmd : Option Command} (runs : ∀ c, cmd = some c → s.runsCommand c) (fails : Nat) :
    SessionStep s (sendDone fails cmd s) := by
  cases cmd with
  | none => exact .keeps
  | some c => exact of_commandSent (runs c rfl) fails

theorem of_beginSend {cmd : Option Command} (runs : ∀ c, cmd = some c → s.runsCommand c) (f : Bytes) (fails : Nat) :
    SessionStep s (beginSend f fails cmd s) := by
  by_cases h : s.cfg.repeatCount = 0
  · rw [beginSend_zero h]; exact of_sendDone runs fails
  · rw [beginSend_pos h]; exact .keeps

/-! The steps of the loops. -/

theorem of_sendStep {f : Bytes} {rep fails : Nat} {ph : LoopPhase} {cmd : Option Command}
    (hr : s.running = some (.send f rep fails ph cmd)) : SessionStep s (sendStep f rep fails ph cmd s) := by
  have runs : ∀ c, cmd = some c → s.runsCommand c := by
    rintro c rfl
    exact .inr ⟨f, rep, fails, ph, hr⟩
  cases ph with
  | act => exact .keeps
  | wait => exact .keeps
  | sample =>
    rcases sendStep_sample_cases f rep fails cmd s with ⟨-, he⟩ | ⟨-, -, he⟩ | ⟨-, -, he⟩
    · rw [he]; exact of_abort _
    · rw [he]; exact .keeps
    · rw [he]; exact of_boundary (of_sendDone (s := { s with env := s.env.drawShutdown.2 }) runs fails)

theorem of_tryStep (d : Direction) (fb : Bool) (n : Nat) (ph : LoopPhase) : SessionStep s (tryStep d fb n ph s) := by
  cases ph with
  | act =>
    rcases tryStep_act_cases d fb n s with ⟨-, he⟩ | ⟨-, -, he⟩ | ⟨-, -, he⟩
    · rw [he, switchTo_eq]; exact .keeps
    · rw [he]; exact .keeps
    · rw [he, exhausted_eq]; exact .keeps
  | wait => exact .keeps
  | sample =>
    rcases tryStep_sample_cases d fb n s with ⟨-, he⟩ | ⟨-, he⟩
    · rw [he]; exact of_abort _
    · rw [he]; exact .keeps

theorem of_listenStep (ph : LoopPhase) : SessionStep s (listenStep ph s) := by
  cases ph with
  | act =>
    rcases listenStep_act_cases s with ⟨-, he⟩ | ⟨_, _, -, he⟩
    · rw [he]; exact .keeps
    · rw [he]; exact .keeps
  | wait => exact .keeps
  | sample =>
    rcases listenStep_sample_cases s with ⟨-, he⟩ | ⟨-, he⟩
    · rw [he]; exact of_abort _
    · rw [he]; exact .keeps

theorem of_continueRun {r : Running} (hr : s.running = some r) (h : continueRun r s = .next t) : SessionStep s t := by
  cases r with
  | emit c fails => exact nomatch h
  | send f rep fails ph cmd => obtain rfl := Host.Outcome.next.inj h; exact of_sendStep hr
  | trysw d fb n ph => obtain rfl := Host.Outcome.next.inj h; exact of_tryStep d fb n ph
  | listen ph => obtain rfl := Host.Outcome.next.inj h; exact of_listenStep ph

/-! The instructions. -/

/-- `INIT` is refused inside a session (R337 (d)); only `SHUTDOWN` ends it. -/
theorem of_operation (hs : s.inited = true) (h : OpEffect s t) : SessionStep s t := by
  have hinit : initAllowed s ≠ true := by simp [initAllowed, hs]
  cases h with
  | answers => exact .keeps
  | faults ha => exact absurd ha hinit
  | opens ha => exact absurd ha hinit
  | shutsDown ρ => exact .endsSession _ _ _ ρ rfl
  | startsCommand hr => rw [startCommand_ready hr]; exact .keeps
  | startsSend _ f => exact of_beginSend (cmd := none) nofun f 0
  | switches => rw [switchTo_eq]; exact .keeps
  | startsTrysw => exact .keeps
  | exhausts => rw [exhausted_eq]; exact .keeps
  | startsListen => exact .keeps

theorem of_exec {i : Instr} (hs : s.inited = true) (h : exec i s = .next t) : SessionStep s t := by
  cases hk : encode i with
  | request r =>
    obtain ⟨t', ht', heff⟩ := exec_operation hk s
    obtain rfl := Host.Outcome.next.inj (h.symm.trans ht')
    exact of_operation hs heff
  | code w =>
    rw [exec_of_encode_code hk] at h
    rcases emitCode_cases h with ⟨c, fails, -, rfl⟩ | ⟨-, rfl⟩ | ⟨-, rfl⟩ <;> exact .keeps
  | frame f =>
    rw [exec_of_encode_frame hk] at h
    rcases emitFrame_cases h with ⟨c, fails, hr, rfl⟩ | ⟨-, rfl⟩ | ⟨-, rfl⟩
    · refine of_beginSend ?_ f fails
      rintro _ ⟨⟩
      exact .inl ⟨fails, hr⟩
    · exact of_beginSend (cmd := none) nofun f 0
    · exact .keeps
  | payload p =>
    obtain ⟨q, rfl⟩ := eq_payload_of_encode hk
    obtain ⟨e, rfl⟩ := execPayload_cases h
    exact .keeps
  | capture raw =>
    obtain rfl := eq_capture_of_encode hk
    rcases execCapture_cases h with ⟨p, rfl⟩ | ⟨e, rfl⟩ <;> exact .keeps

/-- Inside a session every step is one of the three. -/
theorem of_step (hs : s.inited = true) (h : step s = .next t) : SessionStep s t := by
  rcases step_cases h with ⟨item, i, -, -, he⟩ | ⟨r, -, rfl⟩ | ⟨r, -, hr, he⟩ | ⟨r, rest, i, -, -, -, -, he⟩ |
    ⟨r, rest, -, -, -, rfl⟩ | ⟨-, -, -, rfl⟩
  · exact of_boundary (of_exec (s := s.putPath none) hs he)
  · exact .keeps
  · exact of_continueRun hr he
  · exact of_boundary (of_exec (s := s.putHost rest) hs he)
  · exact .keeps
  · exact .keeps

end SessionStep

/-- Settles O54: inside a session every step keeps the session's registers, or resets the block after a release. -/
theorem sessionRegistersAreFixed : Obligations.SessionRegistersAreFixed := by
  intro s t h hs
  cases SessionStep.of_step hs h with
  | keeps same _ => exact .inl ⟨same.cfg, same.devId, same.hwFault, same.inited.trans hs⟩
  | endsCommand same => exact .inl ⟨same.cfg, same.devId, same.hwFault, same.inited.trans hs⟩
  | endsSession b e h ρ reset =>
    subst reset
    exact .inr ⟨rfl, rfl, rfl, rfl, rfl, rfl, ρ, rfl⟩

/-- Settles O55: of the three kinds of step inside a session only the end of a command operation moves `seq_ctr`, and it
does so only when the counter is implicit. -/
theorem sequenceCounterMovesOnlyAtTheEnd : Obligations.SequenceCounterMovesOnlyAtTheEnd := by
  intro s t h hs ht hne
  cases SessionStep.of_step hs h with
  | keeps _ seq => exact absurd seq hne
  | endsCommand _ c runs last ended seq =>
    have himp : c.implicit = true := by
      by_contra hexp
      exact hne (by rw [seq, Command.seqAfter, if_neg hexp])
    exact ⟨c, himp, last, ended, by rw [seq, Command.seqAfter, if_pos himp], runs⟩
  | endsSession b e h ρ reset =>
    subst reset
    exact nomatch ht

end Sys2Proof.Machine

/-! ## Every step keeps the invariant -/

namespace Sys2Proof.Machine

section clauses

variable {s : State}

/-! The clauses of the invariant, one lemma for each running operation. -/

theorem runningOk_none (h : s.running = none) : runningOk s := by simp [runningOk, h]

theorem runningOk_emit {c : Command} {fails : Nat} (h : s.running = some (.emit c fails)) :
    runningOk s ↔ c.ok ∧ fails ≤ writesBefore s (some c) := by simp [runningOk, h]

theorem runningOk_send {f : Bytes} {rep fails : Nat} {ph : LoopPhase} {cmd : Option Command}
    (h : s.running = some (.send f rep fails ph cmd)) :
    runningOk s ↔ f.length = frameLen ∧ 1 ≤ rep ∧ rep ≤ s.cfg.repeatCount.toNat ∧
      fails ≤ writesBefore s cmd + (if ph = .act then rep - 1 else rep) ∧
      ∀ c, cmd = some c → c.ok ∧ sessionFrame s c.frameCounter f := by simp [runningOk, h]

theorem runningOk_trysw {d : Direction} {fb : Bool} {n : Nat} {ph : LoopPhase}
    (h : s.running = some (.trysw d fb n ph)) :
    runningOk s ↔ 1 ≤ n ∧ n ≤ s.cfg.maxRetries.toNat ∧
      (1 < n ∨ ph ≠ .act → d = .transmitting ∧ s.radioState = .listening) ∧
      (ph ≠ .act → n < s.cfg.maxRetries.toNat) := by simp [runningOk, h]

theorem runningOk_listen {ph : LoopPhase} (h : s.running = some (.listen ph)) : runningOk s := by simp [runningOk, h]

theorem pathOk_empty (hp : s.path = none) (hr : ∀ c fails, s.running ≠ some (.emit c fails)) : pathOk s := by
  unfold pathOk
  split
  case h_5 c fails _ h => exact hr c fails h
  all_goals simp_all

/-- The words that stand on the data path, each with the operation it belongs to. -/
theorem pathOk_cases (h : pathOk s) :
    (s.path = none ∧ ∀ c fails, s.running ≠ some (.emit c fails)) ∨
    (∃ w c fails, s.path = some (.code w) ∧ s.running = some (.emit c fails) ∧ listedCode w) ∨
    (∃ f c fails, s.path = some (.frame f) ∧ s.running = some (.emit c fails) ∧ sessionFrame s c.frameCounter f) ∨
    (∃ raw, s.path = some (.capture raw) ∧ s.running = some (.listen .wait)) ∨
    ∃ p, s.path = some (.payload p) ∧ s.running = some (.listen .wait) := by
  unfold pathOk at h
  split at h
  · next w c fails hp hr => exact .inr (.inl ⟨w, c, fails, hp, hr, h⟩)
  · next f c fails hp hr => exact .inr (.inr (.inl ⟨f, c, fails, hp, hr, h⟩))
  · next raw hp hr => exact .inr (.inr (.inr (.inl ⟨raw, hp, hr⟩)))
  · next p hp hr => exact .inr (.inr (.inr (.inr ⟨p, hp, hr⟩)))
  · exact h.elim
  · next hp hr => exact .inl ⟨hp, fun c fails => hr c fails⟩
  · exact h.elim

theorem transceiverOk_switchTo (d : Direction) (s : State) : transceiverOk (switchTo d s) := by
  cases d <;> rfl

theorem countFail_le (ok : Bool) (fails : Nat) : countFail ok fails ≤ fails + 1 := by
  cases ok <;> simp [countFail]

end clauses

/-- The decoder reads a frame of the session as the instruction that stands for this frame. -/
theorem encode_of_decode_sessionFrame {s : State} {k : Byte} {f : Bytes} {i : Instr} (hf : sessionFrame s k f)
    (hd : decode (.frame f) = .ok i) : encode i = .frame f := by
  obtain ⟨code, rfl⟩ := hf
  obtain rfl := Except.ok.inj (hd.symm.trans (decodeFrame_frameBytes ..))
  rfl

/-! Inside a session the running operation and the data path are all that a step has to re-establish. -/

/-- The part of the invariant that does not speak of the running operation, inside a session. -/
structure State.InSession (s : State) : Prop where
  inited : s.inited = true
  noFault : s.hwFault = false
  radio : transceiverOk s

theorem State.Inv.inSession {s : State} (hs : s.Inv) (hi : s.inited = true) : s.InSession where
  inited := hi
  noFault := Bool.eq_false_iff.mpr fun hf => hs.oneOfTwo ⟨hf, hi⟩
  radio := hs.radio

/-- An operation runs only inside a session. -/
theorem State.Inv.inSession_of_running {s : State} (hs : s.Inv) {r : Running} (hr : s.running = some r) : s.InSession := by
  refine hs.inSession (Bool.eq_true_of_not_eq_false fun hi => ?_)
  obtain ⟨-, hnone⟩ := hs.noSession hi
  exact nomatch hr.symm.trans hnone

theorem State.Inv.inSession_of_ready {s : State} (hs : s.Inv) (hr : ready s = true) : s.InSession :=
  hs.inSession ((ready_iff s).mp hr).1

/-- A released block outside a session meets the invariant. -/
theorem inv_of_reset (b : Build) (e : Env) (h : List Request) (tr : List Event) :
    State.Inv { State.reset with build := b, env := e, host := h, trace := tr } where
  oneOfTwo := by rintro ⟨⟨⟩, -⟩
  noSession := fun _ => ⟨rfl, rfl⟩
  indices := trivial
  onPath := trivial
  radio := rfl

namespace State.InSession

variable {s : State}

theorem inv (h : s.InSession) (hr : runningOk s) (hp : pathOk s) : s.Inv where
  oneOfTwo := by rintro ⟨hf, -⟩; exact nomatch h.noFault.symm.trans hf
  noSession := fun hi => nomatch h.inited.symm.trans hi
  indices := hr
  onPath := hp
  radio := h.radio

/-- An operation other than a command operation that waits for a word goes on. -/
theorem inv_goesOn (h : s.InSession) (hp : s.path = none) {r : Running} {e : Env} {tr : List Event}
    (hr : runningOk (s.putRunning (some r))) (hne : ∀ c fails, r ≠ .emit c fails := by nofun) :
    State.Inv { s with running := some r, env := e, trace := tr } :=
  inv ⟨h.inited, h.noFault, h.radio⟩ hr (pathOk_empty hp fun c fails he => hne c fails (Option.some.inj he))

/-- An operation ends. -/
theorem inv_ends (h : s.InSession) (hp : s.path = none) {q : Byte} {e : Env} {tr : List Event} :
    State.Inv { s with running := none, seqCtr := q, env := e, trace := tr } :=
  inv ⟨h.inited, h.noFault, h.radio⟩ (runningOk_none rfl) (pathOk_empty hp nofun)

/-! The end of a frame, and the head of the loop that sends it. -/

theorem inv_commandSent (h : s.InSession) (hp : s.path = none) {c : Command} (hc : c.ok) {fails : Nat}
    (hf : fails ≤ writesBefore s (some c) + s.cfg.repeatCount.toNat) : (commandSent c fails s).Inv := by
  obtain ⟨hix, hlisted⟩ := hc
  rcases commandSent_cases c fails s with ⟨w, hw, he⟩ | ⟨-, he⟩
  · have hone : c.frameIx = 1 := by
      rcases hix with hone | ⟨-, hnone⟩
      · exact hone
      · exact nomatch hw.symm.trans hnone
    have hfails : fails ≤ (c.frameIx + 1 - 1) * s.cfg.repeatCount.toNat := by
      simpa [writesBefore, hone] using hf
    rw [he]
    exact inv ⟨h.inited, h.noFault, h.radio⟩
      ((runningOk_emit rfl).mpr ⟨⟨.inr ⟨by rw [hone], rfl⟩, nofun⟩, hfails⟩) (hlisted w hw)
  · rw [he]; exact h.inv_ends hp

theorem inv_sendDone (h : s.InSession) (hp : s.path = none) {cmd : Option Command} (hc : ∀ c, cmd = some c → c.ok)
    {fails : Nat} (hf : fails ≤ writesBefore s cmd + s.cfg.repeatCount.toNat) : (sendDone fails cmd s).Inv := by
  cases cmd with
  | none => rw [sendDone_none]; exact h.inv_ends hp
  | some c => exact h.inv_commandSent hp (hc c rfl) hf

theorem inv_beginSend (h : s.InSession) (hp : s.path = none) {f : Bytes} (hlen : f.length = frameLen)
    {cmd : Option Command} (hc : ∀ c, cmd = some c → c.ok ∧ sessionFrame s c.frameCounter f) {fails : Nat}
    (hf : fails ≤ writesBefore s cmd) : (beginSend f fails cmd s).Inv := by
  by_cases hz : s.cfg.repeatCount = 0
  · rw [beginSend_zero hz]
    exact h.inv_sendDone hp (fun c he => (hc c he).1) (hf.trans (Nat.le_add_right ..))
  · have hpos : 1 ≤ s.cfg.repeatCount.toNat := Nat.pos_of_ne_zero fun h0 => hz (BitVec.eq_of_toNat_eq h0)
    rw [beginSend_pos hz]
    exact h.inv_goesOn hp ((runningOk_send rfl).mpr ⟨hlen, le_rfl, hpos, hf, hc⟩)

end State.InSession

/-! The steps of the loops. -/

namespace State.Inv

variable {s t : State}

theorem of_sendStep (hs : s.Inv) (hp : s.path = none) {f : Bytes} {rep fails : Nat} {ph : LoopPhase}
    {cmd : Option Command} (hr : s.running = some (.send f rep fails ph cmd)) :
    (sendStep f rep fails ph cmd s).Inv := by
  have h := hs.inSession_of_running hr
  obtain ⟨hlen, hpos, hrep, hf, hc⟩ := (runningOk_send hr).mp hs.indices
  cases ph with
  | act =>
    have hw : countFail s.env.drawWrite.1 fails ≤ writesBefore s cmd + rep := by
      have hcount := countFail_le s.env.drawWrite.1 fails
      simp only [if_true] at hf
      omega
    rw [sendStep_act]
    exact h.inv_goesOn hp ((runningOk_send rfl).mpr ⟨hlen, hpos, hrep, hw, hc⟩)
  | wait =>
    have hw : fails ≤ writesBefore s cmd + rep := by simpa using hf
    rw [sendStep_wait]
    exact h.inv_goesOn hp ((runningOk_send rfl).mpr ⟨hlen, hpos, hrep, hw, hc⟩)
  | sample =>
    rcases sendStep_sample_cases f rep fails cmd s with ⟨-, he⟩ | ⟨-, hlt, he⟩ | ⟨-, -, he⟩
    · rw [he]; exact inv_of_reset _ _ _ _
    · rw [he]
      exact h.inv_goesOn hp ((runningOk_send rfl).mpr ⟨hlen, Nat.le_add_left .., hlt, hf, hc⟩)
    · have hsampled : State.InSession { s with env := s.env.drawShutdown.2 } := ⟨h.inited, h.noFault, h.radio⟩
      rw [he]
      exact hsampled.inv_sendDone hp (fun c hcmd => (hc c hcmd).1) (hf.trans (Nat.add_le_add_left hrep _))

theorem of_tryStep (hs : s.Inv) (hp : s.path = none) {d : Direction} {fb : Bool} {n : Nat} {ph : LoopPhase}
    (hr : s.running = some (.trysw d fb n ph)) : (tryStep d fb n ph s).Inv := by
  have h := hs.inSession_of_running hr
  obtain ⟨hpos, hle, hbusy, hlt⟩ := (runningOk_trysw hr).mp hs.indices
  cases ph with
  | act =>
    rcases tryStep_act_cases d fb n s with ⟨-, he⟩ | ⟨⟨hd, hradio, -⟩, hmore, he⟩ | ⟨-, -, he⟩
    · rw [he, switchTo_eq]
      exact State.InSession.inv ⟨h.inited, h.noFault, transceiverOk_switchTo d s⟩ (runningOk_none rfl)
        (pathOk_empty hp nofun)
    · rw [he]
      exact h.inv_goesOn hp ((runningOk_trysw rfl).mpr ⟨hpos, hle, fun _ => ⟨hd, hradio⟩, fun _ => hmore⟩)
    · rw [he, exhausted_eq]
      exact h.inv_ends hp
  | wait =>
    rw [tryStep_wait]
    exact h.inv_goesOn hp
      ((runningOk_trysw rfl).mpr ⟨hpos, hle, fun _ => hbusy (.inr nofun), fun _ => hlt nofun⟩)
  | sample =>
    rcases tryStep_sample_cases d fb n s with ⟨-, he⟩ | ⟨-, he⟩
    · rw [he]; exact inv_of_reset _ _ _ _
    · rw [he]
      exact h.inv_goesOn hp ((runningOk_trysw rfl).mpr
        ⟨Nat.le_add_left .., hlt nofun, fun _ => hbusy (.inr nofun), fun hact => absurd rfl hact⟩)

theorem of_listenStep (hs : s.Inv) (hp : s.path = none) {ph : LoopPhase} (hr : s.running = some (.listen ph)) :
    (listenStep ph s).Inv := by
  have h := hs.inSession_of_running hr
  cases ph with
  | act =>
    rcases listenStep_act_cases s with ⟨-, he⟩ | ⟨_, _, -, he⟩
    · rw [he]; exact h.inv_goesOn hp (runningOk_listen rfl)
    · rw [he]; exact State.InSession.inv ⟨h.inited, h.noFault, h.radio⟩ (runningOk_listen rfl) trivial
  | wait => rw [listenStep_wait]; exact h.inv_goesOn hp (runningOk_listen rfl)
  | sample =>
    rcases listenStep_sample_cases s with ⟨-, he⟩ | ⟨-, he⟩
    · rw [he]; exact inv_of_reset _ _ _ _
    · rw [he]; exact h.inv_goesOn hp (runningOk_listen rfl)

theorem of_continueRun (hs : s.Inv) (hp : s.path = none) {r : Running} (hr : s.running = some r)
    (h : continueRun r s = .next t) : t.Inv := by
  cases r with
  | emit c fails => exact nomatch h
  | send f rep fails ph cmd => obtain rfl := Host.Outcome.next.inj h; exact hs.of_sendStep hp hr
  | trysw d fb n ph => obtain rfl := Host.Outcome.next.inj h; exact hs.of_tryStep hp hr
  | listen ph => obtain rfl := Host.Outcome.next.inj h; exact hs.of_listenStep hp hr

/-! A request of the host. -/

theorem of_putHost (hs : s.Inv) (h : List Request) : (s.putHost h).Inv :=
  ⟨hs.oneOfTwo, hs.noSession, hs.indices, hs.onPath, hs.radio⟩

/-- An answer changes nothing that the invariant speaks of. -/
theorem of_answer (hs : s.Inv) (crc : BitVec 16) (e : Env) (tr : List Event) :
    State.Inv { s with crcReg := crc, env := e, trace := tr } :=
  ⟨hs.oneOfTwo, hs.noSession, hs.indices, hs.onPath, hs.radio⟩

theorem of_operation (hs : s.Inv) (hp : s.path = none) (hr : s.running = none) (h : OpEffect s t) : t.Inv := by
  have hclosed (ha : initAllowed s = true) : s.inited = false ∧ s.hwFault = false := by
    simpa [initAllowed] using ha
  cases h with
  | answers => exact hs.of_answer _ _ _
  | faults ha =>
    obtain ⟨hi, -⟩ := hclosed ha
    exact ⟨(fun ⟨_, hin⟩ => nomatch hi.symm.trans hin), hs.noSession, hs.indices, hs.onPath, hs.radio⟩
  | opens ha id q c e tr =>
    obtain ⟨hi, hf⟩ := hclosed ha
    obtain ⟨hidle, -⟩ := hs.noSession hi
    have hreleased : s.transceiver = .released := by simpa [transceiverOk, hidle] using hs.radio
    have hradio : transceiverOk { s.openSession id q c with env := e, trace := tr } := by
      simp [transceiverOk, hidle, hreleased]
    exact State.InSession.inv ⟨rfl, hf, hradio⟩ (runningOk_none hr) (pathOk_empty hp (by simp [hr]))
  | shutsDown ρ => exact inv_of_reset _ _ _ _
  | startsCommand hready code next ctr listed listedNext =>
    have h := hs.inSession_of_ready hready
    rw [startCommand_ready hready]
    exact State.InSession.inv ⟨h.inited, h.noFault, h.radio⟩
      ((runningOk_emit rfl).mpr ⟨⟨.inl rfl, listedNext⟩, Nat.zero_le _⟩) listed
  | startsSend hready f hlen =>
    exact (hs.inSession_of_ready hready).inv_beginSend (cmd := none) hp hlen nofun (Nat.zero_le _)
  | switches hready d e tr =>
    have h := hs.inSession_of_ready hready
    rw [switchTo_eq]
    exact State.InSession.inv ⟨h.inited, h.noFault, transceiverOk_switchTo d s⟩ (runningOk_none hr)
      (pathOk_empty hp (by simp [hr]))
  | startsTrysw hready hbound d fb =>
    have hpos : 1 ≤ s.cfg.maxRetries.toNat := Nat.pos_of_ne_zero fun h0 => hbound (BitVec.eq_of_toNat_eq h0)
    exact (hs.inSession_of_ready hready).inv_goesOn hp
      ((runningOk_trysw rfl).mpr ⟨le_rfl, hpos, by simp, by simp⟩)
  | exhausts fb =>
    rw [exhausted_eq, ← hr]
    exact hs.of_answer _ _ _
  | startsListen hready => exact (hs.inSession_of_ready hready).inv_goesOn hp (runningOk_listen rfl)

/-! A word on the data path. -/

/-- A command code: its frame is built. -/
theorem of_code (hs : s.Inv) {c : Command} {fails : Nat} (hr : s.running = some (.emit c fails)) {w : BitVec 16}
    {i : Instr} (hd : decode (.code w) = .ok i) : ∃ t, exec i (s.putPath none) = .next t ∧ t.Inv := by
  have h := hs.inSession_of_running hr
  obtain ⟨w', hkind⟩ := decode_code_kind hd
  refine ⟨_, (exec_of_encode_code hkind _).trans (emitCode_of_emit (s := s.putPath none) hr w'), ?_⟩
  have hpath : pathOk (buildFrame w' c.frameCounter (s.putPath none)) := by
    simp only [buildFrame_eq, pathOk, State.putPath_running, hr]
    exact ⟨w', rfl⟩
  exact State.InSession.inv ⟨h.inited, h.noFault, h.radio⟩ hs.indices hpath

/-- A frame: its repetition loop starts. -/
theorem of_frame (hs : s.Inv) {c : Command} {fails : Nat} (hr : s.running = some (.emit c fails)) {f : Bytes}
    (hf : sessionFrame s c.frameCounter f) {i : Instr} (hd : decode (.frame f) = .ok i) :
    ∃ t, exec i (s.putPath none) = .next t ∧ t.Inv := by
  have h := hs.inSession_of_running hr
  have htaken : (s.putPath none).InSession := ⟨h.inited, h.noFault, h.radio⟩
  obtain ⟨hc, hfails⟩ := (runningOk_emit hr).mp hs.indices
  have hlen : f.length = frameLen := by
    obtain ⟨code, rfl⟩ := hf
    exact frameOf_length ..
  have hexec := exec_of_encode_frame (encode_of_decode_sessionFrame hf hd) (s.putPath none)
  refine ⟨_, hexec.trans (emitFrame_of_emit (s := s.putPath none) hr f), ?_⟩
  refine htaken.inv_beginSend rfl hlen ?_ hfails
  rintro _ ⟨⟩
  exact ⟨hc, hf⟩

/-- A report while `LISTEN` runs, with the word taken. -/
theorem of_report (hs : s.Inv) {ph : LoopPhase} (hr : s.running = some (.listen ph)) (crc : BitVec 16) (tr : List Event) :
    State.Inv { s with path := none, crcReg := crc, trace := tr } := by
  have h := hs.inSession_of_running hr
  exact State.InSession.inv ⟨h.inited, h.noFault, h.radio⟩ (runningOk_listen hr) (pathOk_empty rfl (by simp [hr]))

/-- A capture: its payload is left on the path, or it is reported. -/
theorem of_capture (hs : s.Inv) (hr : s.running = some (.listen .wait)) (raw : Bytes) :
    ∃ t, exec (.capture raw) (s.putPath none) = .next t ∧ t.Inv := by
  have h := hs.inSession_of_running hr
  refine ⟨_, execCapture_of_listen (s := s.putPath none) hr raw, ?_⟩
  rcases stripStage_eq raw (s.putPath none) with ⟨p, he⟩ | ⟨e, he⟩
  · rw [he]
    exact State.InSession.inv ⟨h.inited, h.noFault, h.radio⟩ (runningOk_listen hr) (by simp [pathOk, hr])
  · rw [he]; exact hs.of_report hr _ _

/-- A payload: it is validated and reported. -/
theorem of_payload (hs : s.Inv) (hr : s.running = some (.listen .wait)) (p : DecodedPacket) :
    ∃ t, exec (.payload p) (s.putPath none) = .next t ∧ t.Inv := by
  obtain ⟨e, he⟩ := validate_eq p (s.putPath none)
  exact ⟨_, execPayload_of_listen (s := s.putPath none) hr p, he ▸ hs.of_report hr _ _⟩

/-- The step that takes a word goes on: in every case the word belongs to the operation that runs. -/
theorem of_word (hs : s.Inv) {item : Item} {i : Instr} (hp : s.path = some item) (hd : decode item = .ok i) :
    ∃ t, exec i (s.putPath none) = .next t ∧ t.Inv := by
  rcases pathOk_cases hs.onPath with ⟨hnone, -⟩ | ⟨w, c, fails, hw, hr, -⟩ | ⟨f, c, fails, hw, hr, hf⟩ |
    ⟨raw, hw, hr⟩ | ⟨p, hw, hr⟩
  · exact nomatch hp.symm.trans hnone
  all_goals obtain rfl := Option.some.inj (hp.symm.trans hw)
  · exact hs.of_code hr hd
  · exact hs.of_frame hr hf hd
  · obtain rfl := Except.ok.inj hd
    exact hs.of_capture hr raw
  · obtain rfl := Except.ok.inj hd
    exact hs.of_payload hr (unpackPayload p)

/-- No request stands on the data path. -/
theorem path_ne_request (hs : s.Inv) (r : Request) : s.path ≠ some (.request r) := by
  intro hp
  rcases pathOk_cases hs.onPath with ⟨h, -⟩ | ⟨_, _, _, h, -⟩ | ⟨_, _, _, h, -⟩ | ⟨_, h, -⟩ | ⟨_, h, -⟩ <;>
    exact nomatch hp.symm.trans h

theorem of_step (hs : s.Inv) (h : step s = .next t) : t.Inv := by
  rcases step_cases h with ⟨item, i, hp, hd, he⟩ | ⟨r, hp, -⟩ | ⟨r, hp, hr, he⟩ | ⟨r, rest, i, hp, hr, -, hd, he⟩ |
    ⟨r, rest, -, -, -, rfl⟩ | ⟨-, -, -, rfl⟩
  · obtain ⟨t', ht', hinv⟩ := hs.of_word hp hd
    obtain rfl := Host.Outcome.next.inj (he.symm.trans ht')
    exact hinv
  · exact absurd hp (hs.path_ne_request r)
  · exact hs.of_continueRun hp hr he
  · obtain ⟨r', hkind⟩ := decode_request_kind hd
    obtain ⟨t', ht', heff⟩ := exec_operation hkind (s.putHost rest)
    obtain rfl := Host.Outcome.next.inj (he.symm.trans ht')
    exact (hs.of_putHost rest).of_operation hp hr heff
  · exact (hs.of_putHost rest).of_answer _ _ _
  · exact hs

end State.Inv

/-- Settles O58: by cases on what the step takes, a word of the data path, a step of the running operation, or a
request. -/
theorem everyStepKeepsTheInvariant : Obligations.EveryStepKeepsTheInvariant :=
  fun _ _ hs h => hs.of_step h

end Sys2Proof.Machine

/-! ## What a step does at the boundary of the block

The build stays (R7), the events so far stay beneath the new ones (R75), and only a fetch takes a request (R80). -/

namespace Sys2Proof.Machine

/-- From `s` to `t` nothing changes at the boundary but that events are added: the build and the requests to come stay. -/
structure AddsEvents (s t : State) : Prop where
  build : t.build = s.build
  host : t.host = s.host
  trace : ∃ new, t.trace = new ++ s.trace

namespace AddsEvents

variable {s t : State}

/-- The events `new` are added; where `t` is `s` with other fields written, by reflexivity. -/
theorem adds (new : List Event) (trace : t.trace = new ++ s.trace := by rfl) (build : t.build = s.build := by rfl)
    (host : t.host = s.host := by rfl) : AddsEvents s t := ⟨build, host, new, trace⟩

theorem trans {u : State} (hst : AddsEvents s t) (htu : AddsEvents t u) : AddsEvents s u := by
  obtain ⟨earlier, he⟩ := hst.trace
  obtain ⟨later, hl⟩ := htu.trace
  exact .adds (later ++ earlier) (by rw [hl, he, List.append_assoc]) (htu.build.trans hst.build) (htu.host.trans hst.host)

theorem of_refuse : AddsEvents s (refuse s) := .adds [_]

theorem of_guarded {p : Prop} [Decidable p] (h : AddsEvents s t) : AddsEvents s (if p then t else refuse s) := by
  split
  · exact h
  · exact of_refuse

/-! Every driver call is an event. -/

theorem of_drvIsConnected : AddsEvents s (drvIsConnected s).2 := .adds [_]

theorem of_drvPoll : AddsEvents s (drvPoll s).2 := .adds [_]

theorem of_switchTo (d : Direction) : AddsEvents s (switchTo d s) := .adds [_, _]

/-! What the instructions and the loops share. -/

/-- The block is reset, the boundary is not (R374, R375). -/
theorem of_abort : AddsEvents s (abort s) := .adds [_, _]

theorem of_exhausted (fb : Bool) (n : Nat) : AddsEvents s (exhausted fb n s) := by
  rw [exhausted_eq]; exact .adds _

theorem of_deliver (r : Response) : AddsEvents s (deliver r s) := by
  obtain ⟨e, he⟩ := deliver_eq r s
  rw [he]; exact .adds [e]

theorem of_validate (p : DecodedPacket) : AddsEvents s (validate p s) := by
  obtain ⟨e, he⟩ := validate_eq p s
  rw [he]; exact .adds [e]

theorem of_receive (a : Option (Bytes × Nat)) : AddsEvents s (receive a s) := by
  rcases receive_cases a s with ⟨-, he⟩ | ⟨_, _, d, -, -, he⟩ | ⟨_, _, p, -, -, he⟩
  · rw [he]; exact .adds [_]
  · rw [he]; exact of_deliver _
  · rw [he]; exact of_validate _

theorem of_switchReply (d : Direction) : AddsEvents s (switchReply (attemptSwitch d s)) := by
  rcases attemptSwitch_cases d s with ⟨he, -⟩ | ⟨he, -⟩
  · rw [he]; exact .adds [_]
  · rw [he]; exact .adds [_, _, _]

theorem of_initWith (connected : Bool) (id : BitVec 24) (q : Byte) (c : SessionConfig) :
    AddsEvents s (initWith connected id q c s) := by
  cases connected with
  | true => exact .adds [_]
  | false => exact .adds [_]

theorem of_decodeWith (m l : Nat) (raw : Bytes) : AddsEvents s (decodeWith m l raw s) := by
  unfold decodeWith
  split
  · exact .adds [_]
  · exact .adds [_]

theorem of_startCommand (code : BitVec 16) (next : Option (BitVec 16)) (ctr : Option Byte) :
    AddsEvents s (startCommand code next ctr s) := of_guarded (.adds [])

theorem of_sendDone (fails : Nat) (cmd : Option Command) : AddsEvents s (sendDone fails cmd s) := by
  cases cmd with
  | none => exact .adds [_]
  | some c =>
    rw [sendDone_some]
    rcases commandSent_cases c fails s with ⟨w, -, he⟩ | ⟨-, he⟩
    · rw [he]; exact .adds []
    · rw [he]; exact .adds [_]

theorem of_beginSend (f : Bytes) (fails : Nat) (cmd : Option Command) : AddsEvents s (beginSend f fails cmd s) := by
  by_cases h : s.cfg.repeatCount = 0
  · rw [beginSend_zero h]; exact of_sendDone fails cmd
  · rw [beginSend_pos h]; exact .adds []

/-! The steps of the loops. -/

theorem of_sendStep (f : Bytes) (rep fails : Nat) (ph : LoopPhase) (cmd : Option Command) :
    AddsEvents s (sendStep f rep fails ph cmd s) := by
  have sampled : AddsEvents s { s with env := s.env.drawShutdown.2 } := .adds []
  cases ph with
  | act => exact .adds [_]
  | wait => exact .adds [_]
  | sample =>
    rcases sendStep_sample_cases f rep fails cmd s with ⟨-, he⟩ | ⟨-, -, he⟩ | ⟨-, -, he⟩
    · rw [he]; exact sampled.trans of_abort
    · rw [he]; exact .adds []
    · rw [he]; exact sampled.trans (of_sendDone fails cmd)

theorem of_tryStep (d : Direction) (fb : Bool) (n : Nat) (ph : LoopPhase) : AddsEvents s (tryStep d fb n ph s) := by
  have sampledRadio : AddsEvents s { s with env := s.env.drawInflight.2 } := .adds []
  have sampled : AddsEvents s { s with env := s.env.drawShutdown.2 } := .adds []
  cases ph with
  | act =>
    rcases tryStep_act_cases d fb n s with ⟨-, he⟩ | ⟨-, -, he⟩ | ⟨-, -, he⟩
    · rw [he]; exact sampledRadio.trans ((of_switchTo d).trans (.adds [_]))
    · rw [he]; exact .adds []
    · rw [he]; exact sampledRadio.trans (of_exhausted fb n)
  | wait => exact .adds [_]
  | sample =>
    rcases tryStep_sample_cases d fb n s with ⟨-, he⟩ | ⟨-, he⟩
    · rw [he]; exact sampled.trans of_abort
    · rw [he]; exact .adds []

theorem of_listenStep (ph : LoopPhase) : AddsEvents s (listenStep ph s) := by
  have sampled : AddsEvents s { s with env := s.env.drawShutdown.2 } := .adds []
  cases ph with
  | act =>
    rcases listenStep_act_cases s with ⟨-, he⟩ | ⟨_, _, -, he⟩
    · rw [he]; exact .adds [_]
    · rw [he]; exact .adds [_]
  | wait => exact .adds [_]
  | sample =>
    rcases listenStep_sample_cases s with ⟨-, he⟩ | ⟨-, he⟩
    · rw [he]; exact sampled.trans of_abort
    · rw [he]; exact .adds []

theorem of_continueRun {r : Running} (h : continueRun r s = .next t) : AddsEvents s t := by
  cases r with
  | emit c fails => exact nomatch h
  | send f rep fails ph cmd => obtain rfl := Host.Outcome.next.inj h; exact of_sendStep f rep fails ph cmd
  | trysw d fb n ph => obtain rfl := Host.Outcome.next.inj h; exact of_tryStep d fb n ph
  | listen ph => obtain rfl := Host.Outcome.next.inj h; exact of_listenStep ph

/-! The instructions. -/

/-- An operation of the host. `OpEffect` does not say what becomes of the events so far; this does. -/
theorem exec_operation {i : Instr} {r : Request} (hk : encode i = .request r) (s : State) :
    ∃ t, exec i s = .next t ∧ AddsEvents s t := by
  cases i with
  | init id q c => exact ⟨_, rfl, of_guarded (of_drvIsConnected.trans (of_initWith _ id q c))⟩
  | shutdown => exact ⟨_, rfl, .adds [_, _]⟩
  | encodeOp id code counter sep =>
    show ∃ t, execEncode id code counter sep s = .next t ∧ _
    unfold execEncode
    split
    · exact ⟨_, rfl, .adds [_]⟩
    · exact ⟨_, rfl, of_refuse⟩
  | decodeOp raw strip =>
    show ∃ t, execDecode raw strip s = .next t ∧ _
    unfold execDecode
    split
    · exact ⟨_, rfl, of_decodeWith _ _ raw⟩
    · exact ⟨_, rfl, of_refuse⟩
  | crcSum w win =>
    show ∃ t, execCrcSum w win s = .next t ∧ _
    unfold execCrcSum
    split
    · exact ⟨_, rfl, .adds [_]⟩
    · exact ⟨_, rfl, of_refuse⟩
  | goodpkt | crcStart | crcByte | crcRead => exact ⟨_, rfl, .adds [_]⟩
  | pwr | cool | warm | brt | dim | rst | setbrt | setct => exact ⟨_, rfl, of_startCommand _ _ _⟩
  | send f => exact ⟨_, rfl, of_guarded (of_beginSend f 0 none)⟩
  | scaleBrt | scaleCt => exact ⟨_, rfl, of_guarded (.adds [_])⟩
  | swmode d => exact ⟨_, rfl, of_guarded (of_switchReply d)⟩
  | trysw d fb =>
    refine ⟨_, rfl, of_guarded ?_⟩
    split
    · exact of_exhausted fb 0
    · exact .adds []
  | rxpoll => exact ⟨_, rfl, of_guarded (of_drvPoll.trans (of_receive _))⟩
  | listen => exact ⟨_, rfl, of_guarded (.adds [])⟩
  | _ => exact nomatch hk

theorem of_exec {i : Instr} (h : exec i s = .next t) : AddsEvents s t := by
  cases hk : encode i with
  | request r =>
    obtain ⟨t', ht', hadds⟩ := exec_operation hk s
    obtain rfl := Host.Outcome.next.inj (h.symm.trans ht')
    exact hadds
  | code w =>
    rw [exec_of_encode_code hk] at h
    rcases emitCode_cases h with ⟨c, fails, -, rfl⟩ | ⟨-, rfl⟩ | ⟨-, rfl⟩
    · exact .adds []
    · exact .adds []
    · exact of_refuse
  | frame f =>
    rw [exec_of_encode_frame hk] at h
    rcases emitFrame_cases h with ⟨c, fails, -, rfl⟩ | ⟨-, rfl⟩ | ⟨-, rfl⟩
    · exact of_beginSend f fails (some c)
    · exact of_beginSend f 0 none
    · exact of_refuse
  | payload p =>
    obtain ⟨q, rfl⟩ := eq_payload_of_encode hk
    obtain ⟨e, rfl⟩ := execPayload_cases h
    exact .adds [e]
  | capture raw =>
    obtain rfl := eq_capture_of_encode hk
    rcases execCapture_cases h with ⟨p, rfl⟩ | ⟨e, rfl⟩
    · exact .adds []
    · exact .adds [e]

end AddsEvents

/-- A step takes a request only when the block is idle with nothing on the data path; the rest of it only adds events.
With no request presented the list stays empty, its own tail. -/
theorem step_boundary {s t : State} (h : step s = .next t) :
    ((s.running ≠ none ∨ s.path ≠ none) ∧ AddsEvents s t) ∨
    (s.running = none ∧ s.path = none ∧ AddsEvents (s.putHost s.host.tail) t) := by
  have pathTaken : AddsEvents s (s.putPath none) := .adds []
  rcases step_cases h with ⟨item, i, hp, -, he⟩ | ⟨r, hp, rfl⟩ | ⟨r, -, hr, he⟩ | ⟨r, rest, i, hp, hr, hh, -, he⟩ |
    ⟨r, rest, hp, hr, hh, rfl⟩ | ⟨hp, hr, hh, rfl⟩
  · exact .inl ⟨.inr (by simp [hp]), pathTaken.trans (.of_exec he)⟩
  · exact .inl ⟨.inr (by simp [hp]), pathTaken.trans .of_refuse⟩
  · exact .inl ⟨.inl (by simp [hr]), .of_continueRun he⟩
  · exact .inr ⟨hr, hp, by rw [hh]; exact .of_exec he⟩
  · exact .inr ⟨hr, hp, by rw [hh]; exact .of_refuse⟩
  · exact .inr ⟨hr, hp, .adds [] rfl rfl (by simp [hh])⟩

/-- Settles O52: the two kinds of step of `step_boundary`, by what the state before the step says. -/
theorem oneOperationAtATime : Obligations.OneOperationAtATime := by
  intro s t h
  rcases step_boundary h with ⟨hbusy, hadds⟩ | ⟨hr, hp, hadds⟩
  · exact ⟨fun _ => hadds.host, fun hr hp => absurd hbusy (by simp [hr, hp])⟩
  · exact ⟨fun hbusy => absurd hbusy (by simp [hr, hp]), fun _ _ => hadds.host⟩

/-- Settles O53: taking a request is no part of the build or of the events, so both kinds of step keep them. -/
theorem eventsAreOnlyAdded : Obligations.EventsAreOnlyAdded := by
  intro s t h
  rcases step_boundary h with ⟨-, hadds⟩ | ⟨-, -, hadds⟩
  · exact ⟨hadds.build, hadds.trace⟩
  · exact ⟨hadds.build, hadds.trace⟩

/-- Settles O51: the three equations of `step`, for a request taken, for a word taken, and for nothing to do. -/
theorem stepRunsTheDecodedInstruction : Obligations.StepRunsTheDecodedInstruction :=
  ⟨fun _ _ _ _ hp hr hh hd => step_of_request hp hr hh hd, fun _ _ _ hp hd => step_of_path hp hd,
    fun _ hp hr hh => step_of_nothing hp hr hh⟩

end Sys2Proof.Machine

/-! ## Encoding: the bytes of a frame, the codes of R102, and what the decoder makes of what the encoder writes -/

namespace Sys2Proof.Machine

/-! Big-endian fields. -/

theorem be_byte (x : Byte) : be 1 x.toNat = [x] := by
  rw [← intBe_singleton]; exact be_intBe [x]

theorem be_two (v : BitVec 16) : be 2 v.toNat = [v.extractLsb' 8 8, v.extractLsb' 0 8] := rfl

theorem be_three (v : BitVec 24) : be 3 v.toNat = [v.extractLsb' 16 8, v.extractLsb' 8 8, v.extractLsb' 0 8] := rfl

theorem slice_length {b : Bytes} {off n : Nat} (h : off + n ≤ b.length) : (slice b off n).length = n := by
  simp [slice]; omega

/-- Neighbouring slices make one. -/
theorem slice_append_slice (b : Bytes) (off m n : Nat) :
    slice b off m ++ slice b (off + m) n = slice b off (m + n) := by
  simp [slice, List.take_add]

/-- A field inside the buffer is written back as the bytes it was read from. -/
theorem be_field {w : Nat} {b : Bytes} {off n : Nat} (hw : w = 8 * n) (h : off + n ≤ b.length) :
    be n (field w b off n).toNat = slice b off n := by
  subst hw
  have hl := slice_length h
  rw [field, BitVec.toNat_ofNat, be_mod]
  calc be n (intBe (slice b off n)) = be (slice b off n).length (intBe (slice b off n)) := by rw [hl]
    _ = slice b off n := be_intBe _

/-! Frames. -/

/-- A window as the concatenation of its five fields, each big-endian (R141). -/
theorem window_eq_fields (id : BitVec 24) (sep counter : Byte) (code : BitVec 16) :
    window id sep counter code =
      preambleBytes ++ be 3 id.toNat ++ be 1 sep.toNat ++ be 1 counter.toNat ++ be 2 code.toNat := by
  rw [window_eq, be_byte, be_byte]

theorem frameBytes_bytes (id : BitVec 24) (sep counter : Byte) (code crc : BitVec 16) :
    frameBytes id sep counter code crc =
      [0x53, 0x39, 0x14, 0xDD, 0x1C, 0x49, 0x34, 0x12, id.extractLsb' 16 8, id.extractLsb' 8 8, id.extractLsb' 0 8,
        sep, counter, code.extractLsb' 8 8, code.extractLsb' 0 8, crc.extractLsb' 8 8, crc.extractLsb' 0 8] := by
  rw [frameBytes_eq, window_eq, preambleBytes_eq, be_three, be_two, be_two]
  rfl

/-- The integer of a frame: its fields at the bit positions of R91. -/
theorem intBe_frameBytes (id : BitVec 24) (sep counter : Byte) (code crc : BitVec 16) :
    intBe (frameBytes id sep counter code crc) = preamble.toNat * 2 ^ 72 + id.toNat * 2 ^ 48 + sep.toNat * 2 ^ 40
      + counter.toNat * 2 ^ 32 + code.toNat * 2 ^ 16 + crc.toNat := by
  rw [frameBytes_eq, window_eq]
  simp only [intBe_append, intBe_preambleBytes, intBe_singleton, be_length, List.length_singleton,
    intBe_be_of_lt (show id.toNat < 2 ^ (8 * 3) from id.isLt), intBe_be_of_lt (show code.toNat < 2 ^ (8 * 2) from code.isLt),
    intBe_be_of_lt (show crc.toNat < 2 ^ (8 * 2) from crc.isLt)]
  ring

/-- Settles O18: the bytes field by field, and the integer from the same fields; the window under the CRC is the first
fifteen bytes. -/
theorem frameLayoutByteByByte : Obligations.FrameLayoutByteByByte := by
  intro id sep counter code
  rw [frameOf_take]
  exact ⟨frameBytes_bytes id sep counter code _, intBe_frameBytes id sep counter code _⟩

/-- A frame that decodes is what the encoder writes: its six parts, laid side by side, are the whole buffer. -/
theorem encode_of_decodeFrame {f : Bytes} {i : Instr} (h : decodeFrame f = .ok i) :
    encode i = .frame f ∧ f.length = 17 := by
  rw [decodeFrame_eq] at h
  split at h
  · next hf =>
    obtain ⟨hlen, hpre⟩ := hf
    obtain rfl := Except.ok.inj h
    refine ⟨congrArg Item.frame ?_, hlen⟩
    rw [frameBytes_eq, window_eq_fields, ← hpre, be_field rfl (by omega), be_field rfl (by omega), be_field rfl (by omega),
      be_field rfl (by omega), be_field rfl (by omega)]
    calc slice f 0 8 ++ slice f 8 3 ++ slice f 11 1 ++ slice f 12 1 ++ slice f 13 2 ++ slice f 15 2
      _ = slice f 0 17 := by
        rw [slice_append_slice f 0 8 3, slice_append_slice f 0 11 1, slice_append_slice f 0 12 1,
          slice_append_slice f 0 13 2, slice_append_slice f 0 15 2]
      _ = f := List.take_of_length_le hlen.le
  · exact nomatch h

/-! Payloads. -/

/-- Each subfield is found by leaving out those below it (R94). -/
theorem unpackPayload_packPayload (p : DecodedPacket) : unpackPayload (packPayload p) = p := by
  obtain ⟨id, sep, counter, code, crc⟩ := p
  have skip {m n start len : Nat} {x : BitVec m} {y : BitVec n} :
      (x ++ y).extractLsb' (start + n) len = x.extractLsb' start len := by
    rw [BitVec.extractLsb'_append_eq_of_le (by omega), Nat.add_sub_cancel]
  rw [unpackPayload, packPayload, DecodedPacket.mk.injEq]
  refine ⟨?_, ?_, ?_, ?_, ?_⟩
  · exact skip.trans (skip.trans (skip.trans BitVec.extractLsb'_append_eq_left))
  · exact skip.trans (skip.trans (skip.trans BitVec.extractLsb'_append_eq_right))
  · exact skip.trans (skip.trans BitVec.extractLsb'_append_eq_right)
  · exact skip.trans BitVec.extractLsb'_append_eq_right
  · exact BitVec.extractLsb'_append_eq_right

/-- The subfields of a payload lie next to each other and cover it (R94). -/
theorem packPayload_unpackPayload (p : BitVec payloadBits) : packPayload (unpackPayload p) = p := by
  have join (start m n : Nat) : p.extractLsb' (start + n) m ++ p.extractLsb' start n = p.extractLsb' start (m + n) :=
    BitVec.extractLsb'_append_extractLsb'_eq_extractLsb' rfl
  calc p.extractLsb' 48 24 ++ p.extractLsb' 40 8 ++ p.extractLsb' 32 8 ++ p.extractLsb' 16 16 ++ p.extractLsb' 0 16
    _ = p.extractLsb' 0 72 := by rw [join 40 24 8, join 32 32 8, join 16 40 16, join 0 56 16]
    _ = p := BitVec.extractLsb'_eq_self

/-! The codes of R102 as numbers. -/

/-- With the family's first code at `base` (R101). -/
theorem addCode_of_base {family base : Nat} (h : family * 256 = base) (t : Nat) :
    addCode family t = BitVec.ofNat 16 (base + t) := by
  rw [addCode_eq, h]

/-- A borrow over the argument byte takes one from the family (R101). -/
theorem subCode_w8 {family t : Nat} (h0 : 0 < t) (h : t ≤ 256) :
    subCode .w8 family t = BitVec.ofNat 16 ((family + 1) * 256 - t) := by
  have hnum : family * 256 + (256 - t) % 256 = (family + 1) * 256 - t := by omega
  rw [subCode, hnum]

/-- A borrow over the whole code is a subtraction (R101). -/
theorem subCode_w16 {family t : Nat} (hf : family < 256) (h0 : 0 < t) (h : t ≤ family * 256) :
    subCode .w16 family t = BitVec.ofNat 16 (family * 256 - t) := by
  have hnum : (family * 256 + 65536 - t) % 65536 = family * 256 - t := by omega
  rw [subCode, hnum]

/-- With nothing to subtract the two widths agree (R102). -/
theorem subCode_zero {family : Nat} (hf : family < 256) (w : SubWidth) :
    subCode w family 0 = BitVec.ofNat 16 (family * 256) := by
  cases w with
  | w8 =>
    have hnum : family * 256 + (256 - 0) % 256 = family * 256 := by omega
    rw [subCode, hnum]
  | w16 =>
    have hnum : (family * 256 + 65536 - 0) % 65536 = family * 256 := by omega
    rw [subCode, hnum]

/-- Settles O26: `addCode` and `subCode` as numbers, at the families of the four rows. -/
theorem commandCodeTable : Obligations.CommandCodeTable := by
  refine ⟨fun t _ => ⟨addCode_of_base rfl t, addCode_of_base rfl t⟩,
    fun w => ⟨subCode_zero (by decide) w, subCode_zero (by decide) w⟩, fun t h1 h15 => ?_, saturateCodes⟩
  exact ⟨subCode_w8 (by omega) (by omega), subCode_w16 (by omega) (by omega) (by omega),
    subCode_w8 (by omega) (by omega), subCode_w16 (by omega) (by omega) (by omega)⟩

end Sys2Proof.Machine

namespace Sys2Proof

open Machine

/-! The code table, read. -/

theorem getLsbD_codeMask (k j : Nat) : (codeMask k).getLsbD j = decide (k ≤ j ∧ j < 16) := by
  simp only [codeMask, BitVec.getLsbD_shiftLeft, BitVec.getLsbD_allOnes]
  grind

/-- A word whose fixed bits are `f` is `f` above its own low field. -/
theorem eq_append_of_and_codeMask {m k : Nat} (hmk : m + k = 16) {f : BitVec m} {w : BitVec 16}
    (h : w &&& codeMask k = (f ++ 0#k).cast hmk) : w = (f ++ w.extractLsb' 0 k).cast hmk := by
  apply BitVec.eq_of_getLsbD_eq
  intro j hj
  have hbit := congrArg (·.getLsbD j) h
  simp only [BitVec.getLsbD_and, getLsbD_codeMask, BitVec.getLsbD_cast, BitVec.getLsbD_append] at hbit ⊢
  by_cases hjk : j < k
  · simp [hjk]
  · simpa [hjk, hj, Nat.le_of_not_lt hjk] using hbit

theorem CodeRow.takes_iff (row : CodeRow) (w : BitVec 16) :
    row.takes w = true ↔ w &&& row.mask = row.pattern ∧ (row.instr w).wellFormed = true := by
  simp [CodeRow.takes]

theorem exists_row_of_decodeCode {w : BitVec 16} {i : Instr} (h : decodeCode w = .ok i) :
    ∃ row ∈ codeTable, row.takes w = true ∧ row.instr w = i := by
  rw [decodeCode] at h
  split at h
  · next row hrow =>
    exact ⟨row, List.mem_of_find?_eq_some hrow, List.find?_some (p := fun row : CodeRow => row.takes w) hrow,
      Except.ok.inj h⟩
  · exact nomatch h

/-- What the row reads from a word is written back as that word. -/
def CodeRow.Exact (row : CodeRow) : Prop := ∀ w, row.takes w = true → encode (row.instr w) = .code w

theorem CodeRow.Exact.whole {pattern : BitVec 16} {i : Instr} (h : encode i = .code pattern) :
    CodeRow.Exact ⟨codeMask 0, pattern, fun _ => i⟩ := by
  intro w hw
  obtain ⟨hmask, -⟩ := (CodeRow.takes_iff _ w).mp hw
  have hw : w = pattern := (BitVec.and_allOnes (x := w)).symm.trans hmask
  rw [h, hw]

/-- A row with `m` fixed bits `f` above a field of `k` bits. -/
theorem CodeRow.Exact.field {m k : Nat} (hmk : m + k = 16) {f : BitVec m} {pattern : BitVec 16} {read : BitVec k → Instr}
    (hp : pattern = (f ++ 0#k).cast hmk) (h : ∀ x, encode (read x) = .code ((f ++ x).cast hmk)) :
    CodeRow.Exact ⟨codeMask k, pattern, fun w => read (w.extractLsb' 0 k)⟩ := by
  intro w hw
  obtain ⟨hmask, -⟩ := (CodeRow.takes_iff _ w).mp hw
  rw [h, ← eq_append_of_and_codeMask hmk (hmask.trans hp)]

/-- Every row of R102's table is exact, by what the encoder writes for its instruction. -/
theorem codeTable_exact : ∀ row ∈ codeTable, row.Exact := by
  have hbyte {f : Byte} {p read} := CodeRow.Exact.field (m := 8) (k := 8) rfl (f := f) (pattern := p) (read := read)
  have hnibble {f : BitVec 12} {p read} := CodeRow.Exact.field (m := 12) (k := 4) rfl (f := f) (pattern := p) (read := read)
  simp only [codeTable, List.forall_mem_cons]
  exact ⟨.whole rfl, .whole rfl, .whole rfl, .whole rfl,
    hbyte (f := 0x01) (by decide) fun x => congrArg Item.code (addCode_power x),
    hnibble (f := 0x020) (by decide) fun x => congrArg Item.code (addCode_cooler x), .whole rfl,
    hnibble (f := 0x03F) (by decide) fun x => congrArg Item.code (subCode_warmer_w8 x),
    hnibble (f := 0x02F) (by decide) fun x => congrArg Item.code (subCode_warmer_w16 x),
    hnibble (f := 0x040) (by decide) fun x => congrArg Item.code (addCode_brighter x), .whole rfl,
    hnibble (f := 0x05F) (by decide) fun x => congrArg Item.code (subCode_dimmer_w8 x),
    hnibble (f := 0x04F) (by decide) fun x => congrArg Item.code (subCode_dimmer_w16 x),
    hbyte (f := 0x06) (by decide) fun x => congrArg Item.code (addCode_reset x), by simp⟩

theorem encode_of_decodeCode {w : BitVec 16} {i : Instr} (h : decodeCode w = .ok i) :
    encode i = .code w ∧ i.wellFormed = true := by
  obtain ⟨row, hmem, htakes, rfl⟩ := exists_row_of_decodeCode h
  exact ⟨codeTable_exact row hmem w htakes, ((row.takes_iff w).mp htakes).2⟩

/-- Settles O50: frames, codes and payloads, each read and written back. -/
theorem encodeOfDecode : Obligations.EncodeOfDecode :=
  ⟨fun _ _ h => encode_of_decodeFrame h, fun _ _ h => encode_of_decodeCode h,
    fun p => ⟨unpackPayload p, rfl, congrArg Item.payload (packPayload_unpackPayload p)⟩⟩

/-- Every row fixes the whole family byte, so a word is read by a row of its own family only. -/
theorem CodeRow.takes_family {row : CodeRow} (hmem : row ∈ codeTable) {w : BitVec 16} (h : row.takes w = true) :
    w.extractLsb' 8 8 = row.pattern.extractLsb' 8 8 := by
  have hfamily : ∀ row ∈ codeTable, row.mask.extractLsb' 8 8 = 0xFF#8 := by decide
  obtain ⟨hmask, -⟩ := (row.takes_iff w).mp h
  rw [← hmask, BitVec.extractLsb'_and, hfamily row hmem]
  exact (BitVec.and_allOnes (x := w.extractLsb' 8 8)).symm

/-- Where the family `f` has one row only, that row reads every listed word of the family. -/
theorem decodeCode_of_only_row {f : Byte} {pattern : BitVec 16} {read : Byte → Instr}
    (honly : codeTable.filter (fun row => row.pattern.extractLsb' 8 8 == f) =
      [⟨codeMask 8, pattern, fun w => read (w.extractLsb' 0 8)⟩])
    {x : Byte} (hlisted : listedCode (f ++ x)) : decodeCode (f ++ x) = .ok (read x) := by
  obtain ⟨i, hi⟩ := hlisted
  obtain ⟨row, hmem, htakes, rfl⟩ := exists_row_of_decodeCode hi
  have hfamily : row.pattern.extractLsb' 8 8 = f :=
    (row.takes_family hmem htakes).symm.trans BitVec.extractLsb'_append_eq_left
  have hrow : row ∈ codeTable.filter (fun row => row.pattern.extractLsb' 8 8 == f) :=
    List.mem_filter.mpr ⟨hmem, beq_iff_eq.mpr hfamily⟩
  rw [honly, List.mem_singleton] at hrow
  rw [hi, hrow]
  exact congrArg (Except.ok ∘ read) BitVec.extractLsb'_append_eq_right

theorem decodeCode_power (p : Byte) : decodeCode (addCode familyPower p.toNat) = .ok (.codePowerToggle p) := by
  have hlisted := listedCode_power p
  rw [addCode_power] at hlisted ⊢
  exact decodeCode_of_only_row rfl hlisted

theorem decodeCode_reset (r : Byte) : decodeCode (addCode familyReset r.toNat) = .ok (.codeReset r) := by
  have hlisted := listedCode_reset r
  rw [addCode_reset] at hlisted ⊢
  exact decodeCode_of_only_row rfl hlisted

/-! The words with a step field: sixteen for each row, without 0 where the row borrows (that is the saturate code, R103). -/

theorem decodeCode_cooler (t : BitVec 4) :
    decodeCode (addCode familyCooler t.toNat) = .ok (.codeCooler t) := by
  revert t; decide

theorem decodeCode_brighter (t : BitVec 4) :
    decodeCode (addCode familyBrighter t.toNat) = .ok (.codeBrighter t) := by
  revert t; decide

theorem decodeCode_warmer_w8 {n : BitVec 4} (h : subStep n = true) :
    decodeCode (subCode .w8 familyWarmer (borrowed n.toNat)) = .ok (.codeWarmerW8 n) := by
  revert n; decide

theorem decodeCode_warmer_w16 {n : BitVec 4} (h : subStep n = true) :
    decodeCode (subCode .w16 familyWarmer (borrowed n.toNat)) = .ok (.codeWarmerW16 n) := by
  revert n; decide

theorem decodeCode_dimmer_w8 {n : BitVec 4} (h : subStep n = true) :
    decodeCode (subCode .w8 familyDimmer (borrowed n.toNat)) = .ok (.codeDimmerW8 n) := by
  revert n; decide

theorem decodeCode_dimmer_w16 {n : BitVec 4} (h : subStep n = true) :
    decodeCode (subCode .w16 familyDimmer (borrowed n.toNat)) = .ok (.codeDimmerW16 n) := by
  revert n; decide

theorem decodeCode_of_encode {i : Instr} {w : BitVec 16} (h : encode i = .code w) (hwf : i.wellFormed = true) :
    decodeCode w = .ok i := by
  cases i with
  | codePowerToggle p => cases h; exact decodeCode_power p
  | codeReset r => cases h; exact decodeCode_reset r
  | codeCooler t => cases h; exact decodeCode_cooler t
  | codeBrighter t => cases h; exact decodeCode_brighter t
  | codeWarmerW8 n => cases h; exact decodeCode_warmer_w8 hwf
  | codeWarmerW16 n => cases h; exact decodeCode_warmer_w16 hwf
  | codeDimmerW8 n => cases h; exact decodeCode_dimmer_w8 hwf
  | codeDimmerW16 n => cases h; exact decodeCode_dimmer_w16 hwf
  | codeWarmerStep0 | codeDimmerStep0 | codeWarmerSaturateW8 | codeWarmerSaturateW16 | codeDimmerSaturateW8
  | codeDimmerSaturateW16 => cases h; rfl
  | _ => exact nomatch h

/-! Requests. -/

/-- The select code finds the operation's row, and the row reads each operand from the port it was put on: an optional one by
its presence bit, at both values. -/
theorem decodeRequest_of_encode {i : Instr} {r : Request} (h : encode i = .request r) : decodeRequest r = .ok i := by
  cases i with
  | init | shutdown | goodpkt | crcStart | crcByte | crcRead | send | scaleBrt | scaleCt | rxpoll | listen =>
    cases h; rfl
  | encodeOp _ _ _ o | decodeOp _ o | crcSum _ o | pwr o | rst o | setbrt _ o | setct _ o => cases h; cases o <;> rfl
  | cool t o | warm t o | brt t o | dim t o => cases h; cases t <;> cases o <;> rfl
  | swmode d | trysw d _ => cases h; cases d <;> rfl
  | _ => exact nomatch h

theorem eq_frame_of_encode {i : Instr} {f : Bytes} (h : encode i = .frame f) :
    ∃ id sep counter code crc, i = .frame id sep counter code crc ∧ f = frameBytes id sep counter code crc := by
  cases i <;> cases h; exact ⟨_, _, _, _, _, rfl, rfl⟩

/-- Settles O49: kind by kind of what the encoder writes. -/
theorem decodeOfEncode : Obligations.DecodeOfEncode := by
  intro i hwf
  cases hk : encode i with
  | request r => exact decodeRequest_of_encode hk
  | code w => exact decodeCode_of_encode hk hwf
  | frame f =>
    obtain ⟨id, sep, counter, code, crc, rfl, rfl⟩ := eq_frame_of_encode hk
    exact decodeFrame_frameBytes id sep counter code crc
  | payload p =>
    obtain ⟨q, rfl⟩ := eq_payload_of_encode hk
    obtain rfl := Item.payload.inj hk
    exact congrArg (Except.ok ∘ Instr.payload) (unpackPayload_packPayload q)
  | capture raw =>
    obtain rfl := eq_capture_of_encode hk
    rfl

/-- Settles O48: each word is read by evaluation. -/
theorem writtenOutWordsDecode : Obligations.WrittenOutWordsDecode := by
  unfold Obligations.WrittenOutWordsDecode
  decide

end Sys2Proof

namespace Sys2Proof.Machine

/-! Reserved select codes. -/

theorem opTable_selects : opTable.map Prod.fst = [0x00, 0x01, 0x10, 0x11, 0x12, 0x20, 0x21, 0x22, 0x23, 0x30, 0x31, 0x32,
    0x33, 0x34, 0x35, 0x36, 0x37, 0x38, 0x39, 0x3A, 0x40, 0x41, 0x50, 0x51] := rfl

theorem decodeRequest_reserved {r : Request} (h : r.op ∉ opTable.map Prod.fst) :
    decodeRequest r = .error (.reservedSelect r.op) := by
  have hnone : opTable.lookup r.op = none :=
    List.lookup_eq_none_iff.mpr fun p hp => bne_iff_ne.mpr fun he => h (he ▸ List.mem_map_of_mem hp)
  rw [decodeRequest, hnone]

theorem step_of_rejected_request {s : State} {r : Request} {h : List Request} {e : DecodeError} (hp : s.path = none)
    (hr : s.running = none) (hh : s.host = r :: h) (hd : decode (.request r) = .error e) :
    step s = .next (refuse (s.putHost h)) := by
  simp [step, fetch, afterFetch, rejectItem, hp, hr, hh, hd]

/-- Settles O5: the lookup in the table of R120 fails, and the request taken is refused. -/
theorem reservedSelectCodesAreRefused : Obligations.ReservedSelectCodesAreRefused := by
  intro s r h hp hr hh hop
  rw [← opTable_selects] at hop
  exact step_of_rejected_request hp hr hh (decodeRequest_reserved hop)

end Sys2Proof.Machine

/-! ## Frame Codec: `ENCODE`, `DECODE` and `GOODPKT`

First what each operation does in each of its cases; then a packet as the frame that carries it, which is what ties the
window, the payload and the checksum to each other. -/

namespace Sys2Proof.Machine

/-! The requests (R120), and a session as the source of the operands they leave out (R142, R150). -/

theorem decodeRequest_of_lookup {r : Request} {op : Byte} {read : Request → Instr} (hop : r.op = op)
    (h : opTable.lookup op = some read) : decodeRequest r = .ok (read r) := by
  rw [decodeRequest, hop, h]

theorem ready_of_session {s : State} (hi : s.inited = true) (hf : s.hwFault = false) : ready s = true :=
  (ready_iff s).mpr ⟨hi, hf⟩

/-! `ENCODE` (R142). -/

theorem exec_encodeOp_some (id : BitVec 24) (code : BitVec 16) (counter sep : Byte) (s : State) :
    exec (.encodeOp id code counter (some sep)) s = .next
      { s with
        crcReg := checksum (window id sep counter code)
        trace := .response ⟨.ok, false, .frame (frameOf id sep counter code)⟩ :: s.trace } := rfl

/-- In a session `CFG_SEP` stands in for the separator. -/
theorem exec_encodeOp_none {s : State} (h : ready s = true) (id : BitVec 24) (code : BitVec 16) (counter : Byte) :
    exec (.encodeOp id code counter none) s = exec (.encodeOp id code counter (some s.cfg.sep)) s := by
  simp only [exec, execEncode, sepOperand, h, if_true]

/-- `ENCODE` returns the frame of some separator, or is refused. -/
theorem exec_encodeOp_cases (id : BitVec 24) (code : BitVec 16) (counter : Byte) (sep : Option Byte) (s : State) :
    (∃ sp, exec (.encodeOp id code counter sep) s = exec (.encodeOp id code counter (some sp)) s) ∨
      exec (.encodeOp id code counter sep) s = .next (refuse s) := by
  cases sep with
  | some sp => exact .inl ⟨sp, rfl⟩
  | none =>
    cases h : ready s with
    | true => exact .inl ⟨s.cfg.sep, exec_encodeOp_none h id code counter⟩
    | false => exact .inr (by simp [exec, execEncode, sepOperand, h])

/-- Settles O17: the select code's row, and the two forms of the separator. -/
theorem encodeBuildsTheFrame : Obligations.EncodeBuildsTheFrame :=
  ⟨fun _ hop => decodeRequest_of_lookup hop rfl, fun s id code counter sep =>
    ⟨exec_encodeOp_some id code counter sep s,
      fun hi hf => exec_encodeOp_none (ready_of_session hi hf) id code counter⟩⟩

/-! `DECODE` (R150, R151, R153). -/

section decodeOp

variable {m l : Nat} {raw : Bytes} (s : State)

theorem exec_decodeOp_of_ok {p : BitVec 72} (h : stripCapture m l raw = .ok p) :
    exec (.decodeOp raw (some (m, l))) s = .next
      { s with trace := .response ⟨.ok, false, .packet (unpackPayload p)⟩ :: s.trace } := by
  simp only [exec, execDecode, stripOperand, decodeWith, h]; rfl

theorem exec_decodeOp_of_error {d : DecodeDetail} (h : stripCapture m l raw = .error d) :
    exec (.decodeOp raw (some (m, l))) s = .next
      { s with trace := .response ⟨.frameDecodeError, false, .decodeError d⟩ :: s.trace } := by
  simp only [exec, execDecode, stripOperand, decodeWith, h]; rfl

end decodeOp

/-- In a session its strip constants stand in for the pair. -/
theorem exec_decodeOp_none {s : State} (h : ready s = true) (raw : Bytes) :
    exec (.decodeOp raw none) s = exec (.decodeOp raw (some (s.cfg.stripMsb.toNat, s.cfg.stripLsb.toNat))) s := by
  simp only [exec, execDecode, stripOperand, h, if_true, configStrip]

theorem extractLsb'_ofNat {w start len : Nat} (h : start + len ≤ w) (v : Nat) :
    (BitVec.ofNat w v).extractLsb' start len = BitVec.ofNat len (v >>> start) := by
  apply BitVec.eq_of_getLsbD_eq
  intro i hi
  have hw : start + i < w := by omega
  simp only [BitVec.getLsbD_extractLsb', BitVec.getLsbD_ofNat, Nat.testBit_shiftRight, hi, hw, decide_true, Bool.true_and]

theorem ofNat_mod_two_pow (w v : Nat) : BitVec.ofNat w (v % 2 ^ w) = BitVec.ofNat w v :=
  BitVec.eq_of_toNat_eq (by rw [BitVec.toNat_ofNat, BitVec.toNat_ofNat, Nat.mod_mod])

/-- The subfields of the lowest 72 bits of a number (R153). -/
theorem unpackPayload_ofNat (v : Nat) : unpackPayload (BitVec.ofNat 72 v) =
    ⟨BitVec.ofNat 24 (v >>> 48), BitVec.ofNat 8 (v >>> 40), BitVec.ofNat 8 (v >>> 32), BitVec.ofNat 16 (v >>> 16),
      BitVec.ofNat 16 v⟩ := by
  rw [unpackPayload, DecodedPacket.mk.injEq]
  exact ⟨extractLsb'_ofNat (by decide) v, extractLsb'_ofNat (by decide) v, extractLsb'_ofNat (by decide) v,
    extractLsb'_ofNat (by decide) v, extractLsb'_ofNat (by decide) v⟩

/-- Settles O20: the three lengths of `stripCapture`, and the fields of the 72 bits that are left. -/
theorem decodeStripsAndUnpacks : Obligations.DecodeStripsAndUnpacks := by
  refine ⟨fun _ hop => decodeRequest_of_lookup hop rfl, fun s raw m l => ⟨fun h => ?_, fun h => ?_, fun h => ?_,
    fun hi hf => exec_decodeOp_none (ready_of_session hi hf) raw⟩⟩
  · exact exec_decodeOp_of_error s (by rw [stripCapture_eq, if_pos h])
  · exact exec_decodeOp_of_error s (by rw [stripCapture_eq, if_neg (by omega), if_pos h])
  · have hok : stripCapture m l raw = .ok (BitVec.ofNat 72 (intBe raw >>> l)) := by
      rw [stripCapture_eq, if_neg (by omega), if_neg (by omega)]
    rw [exec_decodeOp_of_ok s hok, unpackPayload_ofNat]
    simp only [Nat.shiftRight_add]

/-- The strip keeps the 72 bits `p` between the `m` leading bits `a` and the `l` trailing bits `j`. -/
theorem stripCapture_be {m l n : Nat} (hn : 8 * n = m + l + 72) (a p : Nat) {j : Nat} (hj : j < 2 ^ l) :
    stripCapture m l (be n (a * 2 ^ (72 + l) + p * 2 ^ l + j)) = .ok (BitVec.ofNat 72 p) := by
  have hsplit : a * 2 ^ (72 + l) + p * 2 ^ l + j = j + (p + 2 ^ 72 * a) * 2 ^ l := by rw [pow_add]; ring
  have hwidth : 2 ^ (8 * n) = 2 ^ l * 2 ^ (72 + m) := by rw [← pow_add, hn]; congr 1; omega
  rw [stripCapture_eq, be_length, if_neg (by omega), if_neg (by omega), intBe_be, Nat.shiftRight_eq_div_pow, hwidth,
    Nat.mod_mul_right_div_self, hsplit, Nat.add_mul_div_right _ _ (by positivity), Nat.div_eq_of_lt hj, Nat.zero_add]
  congr 1
  apply BitVec.eq_of_toNat_eq
  rw [BitVec.toNat_ofNat, BitVec.toNat_ofNat, pow_add, Nat.mod_mul_right_mod, Nat.add_mul_mod_self_left]

/-- Settles O21: both captures are stripped to the same 72 bits. -/
theorem decodeIgnoresTheStrippedBits : Obligations.DecodeIgnoresTheStrippedBits := by
  intro s m l a a' j j' p n hn _ _ hj hj' _
  rw [exec_decodeOp_of_ok s (stripCapture_be hn a p hj), exec_decodeOp_of_ok s (stripCapture_be hn a' p hj')]

/-! `GOODPKT` (R156). -/

theorem exec_goodpkt (p : DecodedPacket) (s : State) : exec (.goodpkt p) s = .next
    { s with crcReg := packetCrc p, trace := .response ⟨.ok, false, .good (decide (packetCrc p = p.crc))⟩ :: s.trace } := rfl

theorem exec_goodpkt_of_good {p : DecodedPacket} (h : packetCrc p = p.crc) (s : State) : exec (.goodpkt p) s = .next
    { s with crcReg := p.crc, trace := .response ⟨.ok, false, .good true⟩ :: s.trace } := by
  rw [exec_goodpkt, h, decide_eq_true rfl]

/-- Settles O24: the window is rebuilt with the eight bytes of the preamble. -/
theorem goodpktRecomputesTheCrc : Obligations.GoodpktRecomputesTheCrc := by
  refine ⟨fun _ hop => decodeRequest_of_lookup hop rfl, fun s p => ?_⟩
  rw [exec_goodpkt, packetCrc, packetWindow, window_eq, preambleBytes_eq]

/-! A packet as the frame that carries it. -/

/-- The frame whose fields are the packet's. -/
def packetFrame (p : DecodedPacket) : Bytes := frameBytes p.id p.separator p.counter p.command p.crc

theorem packetFrame_eq (p : DecodedPacket) : packetFrame p = packetWindow p ++ be 2 p.crc.toNat := rfl

@[simp] theorem packetFrame_length (p : DecodedPacket) : (packetFrame p).length = 17 := frameBytes_length ..

theorem toNat_append_eq_add {m n : Nat} (x : BitVec m) (y : BitVec n) :
    (x ++ y).toNat = x.toNat * 2 ^ n + y.toNat := by
  rw [BitVec.toNat_append, ← Nat.shiftLeft_add_eq_or_of_lt y.isLt, Nat.shiftLeft_eq]

/-- The frame is the preamble above the payload (R91, R94). -/
theorem intBe_packetFrame (p : DecodedPacket) :
    intBe (packetFrame p) = preamble.toNat * 2 ^ 72 + (packPayload p).toNat := by
  have hpack : (packPayload p).toNat = p.id.toNat * 2 ^ 48 + p.separator.toNat * 2 ^ 40 + p.counter.toNat * 2 ^ 32
      + p.command.toNat * 2 ^ 16 + p.crc.toNat := by
    simp only [packPayload, toNat_append_eq_add]
    ring
  rw [packetFrame, intBe_frameBytes, hpack]
  simp only [Nat.add_assoc]

/-- The lowest 72 bits of the frame are the payload. -/
theorem ofNat_intBe_packetFrame (p : DecodedPacket) : BitVec.ofNat 72 (intBe (packetFrame p)) = packPayload p := by
  apply BitVec.eq_of_toNat_eq
  rw [intBe_packetFrame, BitVec.toNat_ofNat, Nat.add_comm, Nat.add_mul_mod_self_right]
  exact Nat.mod_eq_of_lt (packPayload p).isLt

/-- A capture is decoded to `p` when what is left of it is the payload of `p`. -/
theorem exec_decodeOp_of_packet {m l : Nat} {raw : Bytes} {p : DecodedPacket} (s : State)
    (h : stripCapture m l raw = .ok (packPayload p)) : exec (.decodeOp raw (some (m, l))) s = .next
      { s with trace := .response ⟨.ok, false, .packet p⟩ :: s.trace } := by
  rw [exec_decodeOp_of_ok s h, unpackPayload_packPayload]

/-- The packet of the frame that `ENCODE` builds: its `packetFrame` is that frame, by definition. -/
def encodedPacket (id : BitVec 24) (sep counter : Byte) (code : BitVec 16) : DecodedPacket :=
  ⟨id, sep, counter, code, checksum (window id sep counter code)⟩

theorem encodedPacket_eq (id : BitVec 24) (sep counter : Byte) (code : BitVec 16) :
    encodedPacket id sep counter code = ⟨id, sep, counter, code, checksum ((frameOf id sep counter code).take 15)⟩ := by
  rw [frameOf_take, encodedPacket]

theorem packetCrc_encodedPacket (id : BitVec 24) (sep counter : Byte) (code : BitVec 16) :
    packetCrc (encodedPacket id sep counter code) = (encodedPacket id sep counter code).crc := rfl

/-- With 64 and 0 the strip takes the preamble off a frame. -/
theorem stripCapture_packetFrame (p : DecodedPacket) : stripCapture 64 0 (packetFrame p) = .ok (packPayload p) := by
  rw [stripCapture_eq, packetFrame_length, if_neg (by decide), if_neg (by decide), Nat.shiftRight_zero,
    ofNat_intBe_packetFrame]

/-- With 15 and 9 the strip takes the stray bits off a capture of a frame's last 72 bits. -/
theorem stripCapture_capture (p : DecodedPacket) (a : Nat) (j : BitVec 9) :
    stripCapture 15 9 (be 12 (a * 2 ^ 81 + (intBe (packetFrame p) % 2 ^ 72) * 2 ^ 9 + j.toNat)) = .ok (packPayload p) := by
  have hstrip := stripCapture_be (m := 15) (l := 9) (n := 12) rfl a (intBe (packetFrame p) % 2 ^ 72) j.isLt
  simp only [Nat.reduceAdd] at hstrip
  rw [hstrip, ofNat_mod_two_pow, ofNat_intBe_packetFrame]

/-- Settles O22: the frame is that of its own packet, whose CRC field is the checksum of its window. -/
theorem wholeFrameRoundTrip : Obligations.WholeFrameRoundTrip := by
  intro s id sep counter code f p
  rw [show p = encodedPacket id sep counter code from (encodedPacket_eq id sep counter code).symm]
  exact ⟨exec_encodeOp_some id code counter sep s,
    exec_decodeOp_of_packet s (stripCapture_packetFrame (encodedPacket id sep counter code)),
    exec_goodpkt_of_good (packetCrc_encodedPacket id sep counter code) s⟩

/-- Settles O23: the capture is stripped to the payload of the frame's packet, by the operands or by the session's default
constants. -/
theorem captureRoundTrip : Obligations.CaptureRoundTrip := by
  intro s id sep counter code a j f p raw
  rw [show p = encodedPacket id sep counter code from (encodedPacket_eq id sep counter code).symm]
  have hdecode := exec_decodeOp_of_packet s (stripCapture_capture (encodedPacket id sep counter code) a.toNat j)
  refine ⟨hdecode, fun hi hf hm hl => ?_, exec_goodpkt_of_good (packetCrc_encodedPacket id sep counter code) s⟩
  rw [exec_decodeOp_none (ready_of_session hi hf), hm, hl]
  exact hdecode

end Sys2Proof.Machine

/-! ## The CRC as a linear map, and what it detects

One bit, one byte and a window enter linearly (R188); a register that is fed its own bits becomes zero (R189), and no other
register does. So a window with one bit inverted, and a CRC field that is not the window's checksum, are both seen. -/

namespace Sys2Proof.Machine

/-! One bit. -/

/-- What a bit adds to the shifted register: the generator, when the bit that leaves differs from it (R182). -/
def feedback (b : Bool) : BitVec 16 := if b then 0x1021#16 else 0#16

theorem feedback_xor (b c : Bool) : feedback (b ^^ c) = feedback b ^^^ feedback c := by revert b c; decide

theorem getLsbD_zero_feedback (b : Bool) : (feedback b).getLsbD 0 = b := by revert b; decide

theorem crcBit_eq_feedback (r : BitVec 16) (b : Bool) : crcBit r b = r <<< 1 ^^^ feedback (r.getMsbD 0 ^^ b) := by
  rw [crcBit_eq, feedback]
  split
  · rfl
  · rw [BitVec.xor_zero]

theorem crcBit_xor (r q : BitVec 16) (b c : Bool) : crcBit (r ^^^ q) (b ^^ c) = crcBit r b ^^^ crcBit q c := by
  have hbits : ((r ^^^ q).getMsbD 0 ^^ (b ^^ c)) = ((r.getMsbD 0 ^^ b) ^^ (q.getMsbD 0 ^^ c)) := by
    simp only [BitVec.getMsbD_xor, Bool.xor_assoc, Bool.xor_left_comm]
  simp only [crcBit_eq_feedback, hbits, feedback_xor, BitVec.shiftLeft_xor_distrib]
  ac_rfl

/-- A register that is fed the bit that leaves it is shifted. -/
theorem crcBit_self (r : BitVec 16) : crcBit r (r.getMsbD 0) = r <<< 1 := by
  rw [crcBit_eq_feedback, Bool.xor_self]
  exact BitVec.xor_zero

/-- A zero bit loses nothing: the generator's lowest bit says which bit has left. -/
theorem eq_zero_of_crcBit {r : BitVec 16} (h : crcBit r false = 0#16) : r = 0#16 := by
  rw [crcBit_eq_feedback, Bool.xor_false] at h
  have hmsb : r.getMsbD 0 = false := by
    have hlow : (r <<< 1 ^^^ feedback (r.getMsbD 0)).getLsbD 0 = false := congrArg (·.getLsbD 0) h
    rw [BitVec.getLsbD_xor, getLsbD_zero_feedback] at hlow
    simpa using hlow
  have hlt : 2 * r.toNat < 2 ^ 16 := BitVec.msb_eq_false_iff_two_mul_lt.mp hmsb
  have hshift : r <<< 1 = 0#16 := by
    rw [hmsb] at h
    exact (BitVec.xor_zero (x := r <<< 1)).symm.trans h
  bv_omega

/-! One byte. -/

theorem crcByte_xor (r q : BitVec 16) (x y : Byte) : crcByte (r ^^^ q) (x ^^^ y) = crcByte r x ^^^ crcByte q y := by
  rw [crcByte_eq, crcByte_eq, crcByte_eq]
  generalize [7, 6, 5, 4, 3, 2, 1, 0] = is
  induction is generalizing r q with
  | nil => rfl
  | cons i is ih => rw [List.foldl_cons, List.foldl_cons, List.foldl_cons, BitVec.getLsbD_xor, crcBit_xor, ih]

theorem eq_zero_of_crcByte {r : BitVec 16} (h : crcByte r 0#8 = 0#16) : r = 0#16 := by
  rw [crcByte_eq] at h
  generalize [7, 6, 5, 4, 3, 2, 1, 0] = is at h
  induction is generalizing r with
  | nil => exact h
  | cons i is ih =>
    rw [List.foldl_cons, BitVec.getLsbD_zero] at h
    exact eq_zero_of_crcBit (ih h)

@[simp] theorem crcByte_zero_zero : crcByte 0#16 0#8 = 0#16 := by decide

/-- The bits of a byte by their place from the top. -/
theorem crcByte_eq_range (r : BitVec 16) (x : Byte) :
    crcByte r x = (List.range 8).foldl (fun q i => crcBit q (x.getMsbD i)) r := rfl

theorem foldl_crcBit_self (r : BitVec 16) (k : Nat) :
    (List.range k).foldl (fun q i => crcBit q (r.getMsbD i)) r = r <<< k := by
  induction k with
  | zero => simp
  | succ k ih =>
    have hbit : r.getMsbD k = (r <<< k).getMsbD 0 := by rw [BitVec.getMsbD_shiftLeft, Nat.zero_add]
    rw [List.range_succ, List.foldl_append, ih, List.foldl_cons, List.foldl_nil, hbit, crcBit_self, ← BitVec.shiftLeft_add]

/-- A register that is fed its own upper byte is shifted by a byte. -/
theorem crcByte_self (r : BitVec 16) : crcByte r (r.extractLsb' 8 8) = r <<< 8 := by
  rw [crcByte_eq_range, ← foldl_crcBit_self]
  refine List.foldl_ext _ _ _ fun q i hi => ?_
  have hi : i < 8 := List.mem_range.mp hi
  have hbit : (r.extractLsb' 8 8).getMsbD i = r.getMsbD i := by
    simp [BitVec.getMsbD, hi, show i < 16 by omega, show 7 - i < 8 by omega, show 8 + (7 - i) = 15 - i by omega]
  rw [hbit]

/-- A byte enters as if it stood in the upper half of the register (R183). -/
theorem crcByte_eq_xor (r : BitVec 16) (x : Byte) : crcByte r x = crcByte (r ^^^ (x.setWidth 16 <<< 8)) 0#8 := by
  have hupper : (x.setWidth 16 <<< 8).extractLsb' 8 8 = x := by
    apply BitVec.eq_of_getLsbD_eq
    intro i hi
    simp [hi, show 8 + i < 16 by omega]
  have hself : crcByte (x.setWidth 16 <<< 8) x = 0#16 := by
    have h := crcByte_self (x.setWidth 16 <<< 8)
    rw [hupper, ← BitVec.shiftLeft_add] at h
    exact h.trans (BitVec.shiftLeft_eq_zero (by decide))
  calc crcByte r x
    _ = crcByte ((r ^^^ (x.setWidth 16 <<< 8)) ^^^ (x.setWidth 16 <<< 8)) (0#8 ^^^ x) := by
      rw [BitVec.xor_assoc, BitVec.xor_self, BitVec.xor_zero, BitVec.zero_xor]
    _ = crcByte (r ^^^ (x.setWidth 16 <<< 8)) 0#8 := by rw [crcByte_xor, hself, BitVec.xor_zero]

theorem eq_zero_of_crcByte_zero {x : Byte} (h : crcByte 0#16 x = 0#16) : x = 0#8 := by
  rw [crcByte_eq_xor, BitVec.zero_xor] at h
  have hx := eq_zero_of_crcByte h
  bv_omega

/-! A window. -/

@[simp] theorem crcFrom_nil (r : BitVec 16) : crcFrom r [] = r := rfl

@[simp] theorem crcFrom_cons (r : BitVec 16) (x : Byte) (w : Bytes) : crcFrom r (x :: w) = crcFrom (crcByte r x) w := rfl

theorem crcFrom_append (r : BitVec 16) (a b : Bytes) : crcFrom r (a ++ b) = crcFrom (crcFrom r a) b := List.foldl_append

theorem crcFrom_xor (r q : BitVec 16) {a b : Bytes} (h : a.length = b.length) :
    crcFrom (r ^^^ q) (List.zipWith (fun x y => x ^^^ y) a b) = crcFrom r a ^^^ crcFrom q b := by
  induction a generalizing r q b with
  | nil =>
    obtain rfl := List.eq_nil_of_length_eq_zero h.symm
    rfl
  | cons x a ih =>
    cases b with
    | nil => exact nomatch h
    | cons y b => rw [List.zipWith_cons_cons, crcFrom_cons, crcByte_xor, ih _ _ (Nat.succ.inj h), crcFrom_cons, crcFrom_cons]

theorem be_xor (n a b : Nat) : be n (a ^^^ b) = List.zipWith (fun x y => x ^^^ y) (be n a) (be n b) := by
  induction n with
  | zero => rfl
  | succ n ih => simp only [be, Nat.shiftRight_xor_distrib, BitVec.ofNat_xor, ih, List.zipWith_cons_cons]

theorem crcFrom_be_xor (r q : BitVec 16) (n a b : Nat) :
    crcFrom (r ^^^ q) (be n (a ^^^ b)) = crcFrom r (be n a) ^^^ crcFrom q (be n b) := by
  rw [be_xor, crcFrom_xor r q (by rw [be_length, be_length])]

/-- The byte that stands first in `be`. -/
theorem crcFrom_be_succ (r : BitVec 16) (n v : Nat) :
    crcFrom r (be (n + 1) v) = crcFrom (crcByte r (BitVec.ofNat 8 (v >>> (8 * n)))) (be n v) := rfl

/-- Zero bytes lose nothing. -/
theorem eq_zero_of_crcFrom_zeros {r : BitVec 16} {n : Nat} (h : crcFrom r (be n 0) = 0#16) : r = 0#16 := by
  induction n generalizing r with
  | zero => exact h
  | succ n ih =>
    rw [crcFrom_be_succ, Nat.zero_shiftRight] at h
    exact eq_zero_of_crcByte (ih h)

/-- A single bit leaves a trace: the zero bytes before its byte leave the register zero, its byte does not, and the zero bytes
after it lose nothing. -/
theorem crcFrom_oneBit_ne_zero {n j : Nat} (hj : j < 8 * n) : crcFrom 0#16 (be n (2 ^ j)) ≠ 0#16 := by
  induction n with
  | zero => omega
  | succ n ih =>
    rw [crcFrom_be_succ, Nat.shiftRight_eq_div_pow]
    rcases Nat.lt_or_ge j (8 * n) with hlt | hge
    · rw [Nat.div_eq_of_lt (Nat.pow_lt_pow_right (by decide) hlt), crcByte_zero_zero]
      exact ih hlt
    · intro h
      have htail : be n (2 ^ j) = be n 0 := by rw [← be_mod, Nat.mod_eq_zero_of_dvd (pow_dvd_pow 2 hge)]
      rw [htail, Nat.pow_div hge (by decide)] at h
      have hbyte := congrArg BitVec.toNat (eq_zero_of_crcByte_zero (eq_zero_of_crcFrom_zeros h))
      have hsmall : 2 ^ (j - 8 * n) < 2 ^ 8 := Nat.pow_lt_pow_right (by decide) (by omega)
      rw [BitVec.toNat_ofNat, Nat.mod_eq_of_lt hsmall] at hbyte
      exact (Nat.two_pow_pos _).ne' hbyte

/-- Inverting one bit of a window of any length changes its checksum (R196). -/
theorem checksum_ne_of_oneBit (w : Bytes) {j : Nat} (hj : j < 8 * w.length) :
    checksum (be w.length (intBe w ^^^ 2 ^ j)) ≠ checksum w := by
  intro h
  have hxor := crcFrom_be_xor 0xFFFE#16 0#16 w.length (intBe w) (2 ^ j)
  rw [BitVec.xor_zero, be_intBe, ← checksum_eq, ← checksum_eq, h] at hxor
  have hzero : checksum w ^^^ 0#16 = checksum w ^^^ crcFrom 0#16 (be w.length (2 ^ j)) := BitVec.xor_zero.trans hxor
  exact crcFrom_oneBit_ne_zero hj ((BitVec.xor_right_inj _).mp hzero).symm

/-! The CRC field behind a window. -/

/-- A register that is fed its own two bytes becomes zero. -/
theorem crcFrom_self (r : BitVec 16) : crcFrom r (be 2 r.toNat) = 0#16 := by
  have hlower : r.extractLsb' 0 8 = (r <<< 8).extractLsb' 8 8 := by
    apply BitVec.eq_of_getLsbD_eq
    intro i hi
    simp [hi, show i < 16 by omega, show 8 + i < 16 by omega]
  rw [be_two, crcFrom_cons, crcByte_self, hlower, crcFrom_cons, crcByte_self, crcFrom_nil, ← BitVec.shiftLeft_add]
  exact BitVec.shiftLeft_eq_zero (by decide)

/-- Two bytes make the register zero only when they are its own. -/
theorem crcFrom_eq_zero_iff (r c : BitVec 16) : crcFrom r (be 2 c.toNat) = 0#16 ↔ r = c := by
  constructor
  · intro h
    have hxor := crcFrom_be_xor r c 2 c.toNat c.toNat
    rw [Nat.xor_self, h, crcFrom_self, BitVec.xor_self] at hxor
    exact BitVec.xor_eq_zero_iff.mp (eq_zero_of_crcFrom_zeros hxor)
  · rintro rfl
    exact crcFrom_self r

/-- The checksum over a window and a CRC field is zero exactly when the field is the window's checksum (R189). -/
theorem checksum_append_eq_zero_iff (w : Bytes) (c : BitVec 16) : checksum (w ++ be 2 c.toNat) = 0#16 ↔ checksum w = c := by
  rw [checksum_eq, checksum_eq, crcFrom_append]
  exact crcFrom_eq_zero_iff _ c

/-! Frames and packets under the CRC. -/

/-- Settles O19: the frame that `ENCODE` returns is its window and the window's checksum. -/
theorem everyEncodedFrameIsValid : Obligations.EveryEncodedFrameIsValid := by
  intro s t id code counter sep f rest h htrace hrest
  subst hrest
  obtain ⟨sp, rfl⟩ : ∃ sp, f = frameOf id sp counter code := by
    rcases exec_encodeOp_cases id code counter sep s with ⟨sp, he⟩ | he
    · rw [he, exec_encodeOp_some] at h
      obtain rfl := Host.Outcome.next.inj h
      cases htrace
      exact ⟨sp, rfl⟩
    · rw [he] at h
      obtain rfl := Host.Outcome.next.inj h
      exact nomatch htrace
  have hpre : (frameOf id sp counter code).take 8 = [0x53, 0x39, 0x14, 0xDD, 0x1C, 0x49, 0x34, 0x12] := by
    rw [frameOf_eq_frameBytes, frameBytes_bytes]; rfl
  have hcrc : (frameOf id sp counter code).drop 15 = be 2 (checksum ((frameOf id sp counter code).take 15)).toNat := by
    rw [frameOf_take, frameOf_eq_frameBytes, frameBytes_eq, List.drop_left' (window_length id sp counter code)]
  exact ⟨frameOf_length id sp counter code, hpre, hcrc, (checksum_append_eq_zero_iff _ _).mpr rfl⟩

/-- A packet is good exactly when the checksum over its whole frame is zero. -/
theorem packetCrc_eq_iff (p : DecodedPacket) : packetCrc p = p.crc ↔ checksum (packetFrame p) = 0#16 := by
  rw [packetFrame_eq, checksum_append_eq_zero_iff, packetCrc]

/-- A bit of the payload is the same bit of the frame. -/
theorem packetFrame_oneBit (p : DecodedPacket) {j : Nat} (hj : j < 72) :
    packetFrame (unpackPayload (packPayload p ^^^ (1#72 <<< j))) = be 17 (intBe (packetFrame p) ^^^ 2 ^ j) := by
  have hbit : (1#72 <<< j).toNat = 2 ^ j := BitVec.toNat_twoPow_of_lt hj
  have hframe (P : BitVec 72) : preamble.toNat * 2 ^ 72 + P.toNat = (preamble ++ P).toNat := (toNat_append_eq_add _ _).symm
  have hint : intBe (packetFrame (unpackPayload (packPayload p ^^^ (1#72 <<< j)))) = intBe (packetFrame p) ^^^ 2 ^ j := by
    rw [intBe_packetFrame, intBe_packetFrame, packPayload_unpackPayload, hframe, hframe, ← hbit]
    calc (preamble ++ (packPayload p ^^^ 1#72 <<< j)).toNat
      _ = ((preamble ++ packPayload p) ^^^ (0#64 ++ 1#72 <<< j)).toNat := by rw [BitVec.xor_append, BitVec.xor_zero]
      _ = (preamble ++ packPayload p).toNat ^^^ (1#72 <<< j).toNat := by
        rw [BitVec.toNat_xor, toNat_append_eq_add 0#64, BitVec.toNat_zero, Nat.zero_mul, Nat.zero_add]
  rw [← hint, ← packetFrame_length, be_intBe]

/-- Settles O25: a bit of the window, and a bit of the frame of a good packet, by the same single-bit detection. -/
theorem oneInvertedBitIsNeverGood : Obligations.OneInvertedBitIsNeverGood := by
  refine ⟨fun id sep counter code j hj => ?_, fun s p j hj ⟨t, ht, htrace⟩ => ⟨_, exec_goodpkt _ s, ?_⟩⟩
  · have hw := window_length id sep counter code
    have h := checksum_ne_of_oneBit (window id sep counter code) (j := j) (by omega)
    rwa [hw] at h
  · have hgood : checksum (packetFrame p) = 0#16 := by
      rw [exec_goodpkt] at ht
      obtain rfl := Host.Outcome.next.inj ht
      simpa [packetCrc_eq_iff] using htrace
    have hbad := checksum_ne_of_oneBit (packetFrame p) (j := j) (by rw [packetFrame_length]; omega)
    rw [packetFrame_length, ← packetFrame_oneBit p hj, hgood, Ne, ← packetCrc_eq_iff] at hbad
    rw [decide_eq_false hbad]

end Sys2Proof.Machine

/-! ## The CRC Engine

What each of its four operations does in every state; then the other forms of one CRC byte, and the laws of the checksum,
from the linearity above; last a window streamed through the operations. -/

namespace Sys2Proof.Machine

/-! The operations (R190 to R194). -/

section crcOps

variable (s : State)

theorem exec_crcStart : exec .crcStart s = .next
    { s with crcReg := 0xFFFE#16, trace := .response ⟨.ok, false, .none⟩ :: s.trace } := rfl

theorem exec_crcByte (b : Byte) : exec (.crcByte b) s = .next
    { s with crcReg := crcByte s.crcReg b, trace := .response ⟨.ok, false, .none⟩ :: s.trace } := rfl

theorem exec_crcRead : exec .crcRead s = .next { s with trace := .response ⟨.ok, false, .crc s.crcReg⟩ :: s.trace } := rfl

theorem exec_crcSum_of_window {w v : Bytes} {win : Option (Nat × Nat)} (h : windowOperand w win = some v) :
    exec (.crcSum w win) s = .next
      { s with crcReg := checksum v, trace := .response ⟨.ok, false, .crc (checksum v)⟩ :: s.trace } := by
  simp only [exec, execCrcSum, h]; rfl

theorem exec_crcSum_of_no_window {w : Bytes} {win : Option (Nat × Nat)} (h : windowOperand w win = none) :
    exec (.crcSum w win) s = .next { s with trace := .response ⟨.refused, false, .none⟩ :: s.trace } := by
  simp only [exec, execCrcSum, h]; rfl

end crcOps

theorem windowOperand_some (w : Bytes) (off n : Nat) :
    windowOperand w (some (off, n)) = if off + n ≤ w.length then some ((w.drop off).take n) else none := rfl

/-- Settles O6: the select code's row, and the operation written out. -/
theorem crcStartLoadsTheInitialValue : Obligations.CrcStartLoadsTheInitialValue :=
  ⟨fun _ hop => decodeRequest_of_lookup hop rfl, exec_crcStart⟩

/-- Settles O7: the eight one-bit steps are `crcByte` with its list of bits written out. -/
theorem crcByteFeedsEightBits : Obligations.CrcByteFeedsEightBits := by
  refine ⟨fun _ hop => decodeRequest_of_lookup hop rfl, fun s b => ?_⟩
  rw [exec_crcByte, crcByte_eq]
  rfl

/-- Settles O8: the select code's row, and the operation written out. -/
theorem crcReadReturnsTheRegister : Obligations.CrcReadReturnsTheRegister :=
  ⟨fun _ hop => decodeRequest_of_lookup hop rfl, exec_crcRead⟩

/-- Settles O9: the whole buffer is a window of its own; a pair is one exactly when it ends inside the buffer. -/
theorem crcSumOverAWindow : Obligations.CrcSumOverAWindow := by
  refine ⟨fun _ hop => decodeRequest_of_lookup hop rfl, fun s w => ⟨exec_crcSum_of_window s rfl, fun off n => ?_⟩⟩
  split
  · next h => exact exec_crcSum_of_window s (by rw [windowOperand_some, if_pos h])
  · next h => exact exec_crcSum_of_no_window s (by rw [windowOperand_some, if_neg h])

/-! One byte in its other forms (R183, R187). -/

/-- A zero bit shifts the register, and adds the generator when a 1 leaves it. -/
theorem crcBit_false (q : BitVec 16) :
    crcBit q false = if q.getLsbD 15 = true then (q <<< 1) ^^^ 0x1021#16 else q <<< 1 := by
  rw [crcBit_eq, Bool.xor_false]
  rfl

/-- A zero byte is eight zero bits. -/
theorem crcByte_zero_eq_repeat (q : BitVec 16) : crcByte q 0#8 = Nat.repeat (fun q => crcBit q false) 8 q := by
  simp only [crcByte_eq, BitVec.getLsbD_zero]
  rfl

/-- Settles O11: the byte moves into the register, and eight zero bits follow. -/
theorem crcByteEqualsXorThenShift : Obligations.CrcByteEqualsXorThenShift := by
  intro r x
  rw [crcByte_eq_xor, crcByte_zero_eq_repeat]
  simp only [crcBit_false]

theorem setWidth_shiftRight_eq_extractLsb' (r : BitVec 16) : (r >>> 8).setWidth 8 = r.extractLsb' 8 8 := by
  apply BitVec.eq_of_getLsbD_eq
  intro i hi
  simp

/-- Settles O12: by linearity the byte splits into the register's upper byte, which shifts the register, and its
difference from that byte, which is looked up. -/
theorem crcByteByTable : Obligations.CrcByteByTable := by
  intro r x
  rw [setWidth_shiftRight_eq_extractLsb']
  generalize hu : r.extractLsb' 8 8 = u
  calc crcByte r x
    _ = crcByte (r ^^^ 0#16) (u ^^^ (u ^^^ x)) := by
      rw [BitVec.xor_zero, ← BitVec.xor_assoc, BitVec.xor_self, BitVec.zero_xor]
    _ = r <<< 8 ^^^ crcByte 0#16 (u ^^^ x) := by rw [crcByte_xor, ← hu, crcByte_self]

/-! The laws of the checksum (R185, R186, R188, R189, R196). -/

/-- Two registers that one byte takes to the same value are equal: their difference is taken to zero by a zero byte. -/
theorem crcByte_injective (x : Byte) : Function.Injective fun r : BitVec 16 => crcByte r x := by
  intro r q h
  have hxor : crcByte (r ^^^ q) (x ^^^ x) = 0#16 := by rw [crcByte_xor]; exact BitVec.xor_eq_zero_iff.mpr h
  rw [BitVec.xor_self] at hxor
  exact BitVec.xor_eq_zero_iff.mp (eq_zero_of_crcByte hxor)

/-- Settles O10: the fold over no byte, and over the bytes of two windows. -/
theorem checksumOfEmptyAndOfPieces : Obligations.ChecksumOfEmptyAndOfPieces :=
  ⟨checksum_eq [], crcFrom_append⟩

/-- Settles O13: the linearity of `crcFrom` at equal start values; and an injective map of finitely many registers is a
bijection. -/
theorem crcIsLinearAndInvertible : Obligations.CrcIsLinearAndInvertible := by
  refine ⟨fun r0 a b hlen => ?_, fun x => Finite.injective_iff_bijective.mp (crcByte_injective x)⟩
  rw [← crcFrom_xor r0 r0 hlen, BitVec.xor_self]

/-- Settles O14: the CRC field is the window's checksum. -/
theorem checksumResidueIsZero : Obligations.ChecksumResidueIsZero :=
  fun w => (checksum_append_eq_zero_iff w _).mpr rfl

/-- Settles O15, by the trace that a single bit leaves. -/
theorem checksumSeesEverySingleBit : Obligations.ChecksumSeesEverySingleBit :=
  fun w _ hj => checksum_ne_of_oneBit w hj

/-! A window byte by byte (R193). -/

section streaming

variable {s : State} {h : List Request} {w : Bytes} (hp : s.path = none) (hr : s.running = none)

include hp hr

/-- An idle block takes the request that the host presents, by the request's row in the table of R120. -/
theorem step_of_lookup {r : Request} {read : Request → Instr} (hh : s.host = r :: h)
    (hl : opTable.lookup r.op = some read) : step s = exec (read r) (s.putHost h) :=
  step_of_request hp hr hh (decodeRequest_of_lookup rfl hl)

theorem step_crcStart (hh : s.host = Request.zero 0x20 :: h) : step s = .next
    { s with crcReg := 0xFFFE#16, host := h, trace := .response ⟨.ok, false, .none⟩ :: s.trace } :=
  step_of_lookup hp hr hh rfl

theorem step_crcByte {b : Byte} (hh : s.host = { Request.zero 0x21 with b := b } :: h) : step s = .next
    { s with crcReg := crcByte s.crcReg b, host := h, trace := .response ⟨.ok, false, .none⟩ :: s.trace } :=
  step_of_lookup hp hr hh rfl

theorem step_crcRead (hh : s.host = Request.zero 0x22 :: h) : step s = .next
    { s with host := h, trace := .response ⟨.ok, false, .crc s.crcReg⟩ :: s.trace } :=
  step_of_lookup hp hr hh rfl

/-- An idle block that is given a window byte by byte takes it into `crc_reg`, with an `Ok` for each byte, and `CRC.READ`
returns the register that the window leaves. -/
theorem runSteps_crcBytes_crcRead
    (hh : s.host = w.map (fun b => { Request.zero 0x21 with b := b }) ++ (Request.zero 0x22 :: h)) :
    runSteps (w.length + 1) s = .next
      { s with
        crcReg := crcFrom s.crcReg w, host := h
        trace := .response ⟨.ok, false, .crc (crcFrom s.crcReg w)⟩ ::
          (List.replicate w.length (.response ⟨.ok, false, .none⟩) ++ s.trace) } := by
  induction w generalizing s with
  | nil => exact runSteps_succ (step_crcRead hp hr hh) 0
  | cons b w ih =>
    rw [List.length_cons, runSteps_succ (step_crcByte hp hr hh), List.replicate_succ', List.append_assoc]
    exact ih hp hr rfl

end streaming

/-- Settles O16: the first request loads the start value; the rest of the stream folds the window into it and reads it. -/
theorem streamingEqualsOneShot : Obligations.StreamingEqualsOneShot := by
  intro s w h hp hr hh
  rw [runSteps_succ (step_crcStart hp hr hh), checksum_eq, List.replicate_succ', List.append_assoc]
  exact runSteps_crcBytes_crcRead hp hr rfl

end Sys2Proof.Machine

/-! ## The Command Model

The repetition loop as a run, from its head to its end; a command code on the data path as a run through its frame to the
last of its repetitions; then the operations of the host, each of which puts its code or codes there. Last the rows of the
data path, and the scale maps. -/

namespace Sys2Proof.Machine

/-! The repetition loop as a run (R225, R226). -/

/-- While the driver gives `answers`, `shutdown_req` is false at the sample that follows each of them. -/
structure Env.Uninterrupted (answers restW restS : List Bool) (e : Env) : Prop where
  writes : e.writeOk = answers ++ restW
  samples : e.shutdown = List.replicate answers.length false ++ restS

/-- The first part of an uninterrupted stretch; the second is then what is left. -/
theorem Env.Uninterrupted.left {a b restW restS : List Bool} {e : Env} (h : e.Uninterrupted (a ++ b) restW restS) :
    e.Uninterrupted a (b ++ restW) (List.replicate b.length false ++ restS) where
  writes := by rw [h.writes, List.append_assoc]
  samples := by rw [h.samples, List.length_append, List.replicate_add, List.append_assoc]

/-- The state after `n` repetitions of `F`: their answers and samples are used up, their events recorded. -/
def repeated (f : Bytes) (n : Nat) (restW restS : List Bool) (s : State) : State :=
  { s with
    env := { s.env with writeOk := restW, shutdown := restS }
    trace := sendEvents f s.cfg.delayMs.toNat n ++ s.trace }

theorem repeated_zero {s : State} {restW restS : List Bool} (he : s.env.Uninterrupted [] restW restS) (f : Bytes) :
    repeated f 0 restW restS s = s := by
  obtain ⟨hw, hs⟩ := he
  obtain rfl : s.env.writeOk = restW := hw
  obtain rfl : s.env.shutdown = restS := hs
  rfl

theorem sendEvents_append (f : Bytes) (ms m n : Nat) :
    sendEvents f ms n ++ sendEvents f ms m = sendEvents f ms (m + n) := by
  induction n with
  | zero => rfl
  | succ n ih => rw [sendEvents, List.cons_append, List.cons_append, ih]; rfl

theorem repeated_repeated (f : Bytes) (m n : Nat) (w' r' restW restS : List Bool) (s : State) :
    repeated f n restW restS (repeated f m w' r' s) = repeated f (m + n) restW restS s := by
  rw [repeated, repeated, repeated, ← sendEvents_append, List.append_assoc]

theorem countFail_add_count (a : Bool) (fails : Nat) (answers : List Bool) :
    countFail a fails + answers.count false = fails + (a :: answers).count false := by
  cases a with
  | true => simp [countFail]
  | false => simp only [countFail, List.count_cons_self, Bool.false_eq_true, if_false]; omega

/-- The head of the loop at repetition `rep`: the write is next, or the loop is over. -/
def sendFrom (f : Bytes) (rep fails : Nat) (cmd : Option Command) (s : State) : State :=
  if rep ≤ s.cfg.repeatCount.toNat then { s with running := some (.send f rep fails .act cmd) } else sendDone fails cmd s

theorem sendFrom_of_le {s : State} {rep : Nat} (h : rep ≤ s.cfg.repeatCount.toNat) (f : Bytes) (fails : Nat)
    (cmd : Option Command) : sendFrom f rep fails cmd s = { s with running := some (.send f rep fails .act cmd) } := if_pos h

theorem sendFrom_of_lt {s : State} {rep : Nat} (h : s.cfg.repeatCount.toNat < rep) (f : Bytes) (fails : Nat)
    (cmd : Option Command) : sendFrom f rep fails cmd s = sendDone fails cmd s := if_neg (Nat.not_le.mpr h)

theorem beginSend_eq_sendFrom (f : Bytes) (fails : Nat) (cmd : Option Command) (s : State) :
    beginSend f fails cmd s = sendFrom f 1 fails cmd s := by
  by_cases h : s.cfg.repeatCount = 0
  · rw [beginSend_zero h, sendFrom_of_lt (by simp [h])]
  · have hpos : 1 ≤ s.cfg.repeatCount.toNat := Nat.one_le_iff_ne_zero.mpr fun h0 => h (BitVec.eq_of_toNat_eq h0)
    rw [beginSend_pos h, sendFrom_of_le hpos]

/-- With no code left a command operation updates its counter and responds (R224). -/
theorem commandSent_last {cmd : Command} (h : cmd.nextCode = none) (fails : Nat) (s : State) : commandSent cmd fails s =
    { s with
      seqCtr := if cmd.implicit = true then s.seqCtr + BitVec.ofNat 8 cmd.frameIx else s.seqCtr
      running := none, trace := .response ⟨.ok, false, .writeFails fails⟩ :: s.trace } := by
  rw [commandSent, h]
  rfl

/-- With a code left the next frame's turn comes (R240). -/
theorem commandSent_next {cmd : Command} {w : BitVec 16} (h : cmd.nextCode = some w) (fails : Nat) (s : State) :
    commandSent cmd fails s =
      { s with running := some (.emit ⟨cmd.counter, cmd.implicit, cmd.frameIx + 1, none⟩ fails), path := some (.code w) } := by
  rw [commandSent, h]
  rfl

/-- The end of a command operation whose request carried `ctr` (R224). -/
theorem commandSent_of_ctr (c : Byte) (ctr : Option Byte) (ix fails : Nat) (s : State) :
    commandSent ⟨c, ctr.isNone, ix, none⟩ fails s =
      { s with
        seqCtr := if ctr = none then s.seqCtr + BitVec.ofNat 8 ix else s.seqCtr
        running := none, trace := .response ⟨.ok, false, .writeFails fails⟩ :: s.trace } := by
  rw [commandSent_last rfl]
  cases ctr with
  | none => rfl
  | some _ => rfl

/-- The end of a frame does not depend on where in its loop the operation stood. -/
theorem commandSent_running (cmd : Command) (fails : Nat) (r : Option Running) (s : State) :
    commandSent cmd fails { s with running := r } = commandSent cmd fails s := by
  cases h : cmd.nextCode with
  | none => rw [commandSent_last h, commandSent_last h]
  | some w => rw [commandSent_next h, commandSent_next h]

theorem sendDone_running (fails : Nat) (cmd : Option Command) (r : Option Running) (s : State) :
    sendDone fails cmd { s with running := r } = sendDone fails cmd s := by
  cases cmd with
  | none => rfl
  | some c => rw [sendDone_some, commandSent_running, sendDone_some]

theorem sendFrom_running (f : Bytes) (rep fails : Nat) (cmd : Option Command) (r : Option Running) (s : State) :
    sendFrom f rep fails cmd { s with running := r } = sendFrom f rep fails cmd s := by
  rw [sendFrom, sendDone_running, sendFrom]

section repetition

variable {s : State} {f : Bytes} {rep fails k : Nat} {cmd : Option Command} {a : Bool} {restW restS : List Bool}
  (hp : s.path = none)

include hp

theorem runSteps_send_act (hr : s.running = some (.send f rep fails .act cmd))
    (hw : s.env.writeOk = a :: restW) : runSteps (k + 1) s = runSteps k
      { s with
        env := { s.env with writeOk := restW }, trace := .writeBlocking f :: s.trace
        running := some (.send f rep (countFail a fails) .wait cmd) } := by
  rw [runSteps_succ (step_of_running hp hr), sendStep_act, drawWrite_scripted hw]

theorem runSteps_send_wait (hr : s.running = some (.send f rep fails .wait cmd)) : runSteps (k + 1) s = runSteps k
      { s with trace := .wait s.cfg.delayMs.toNat :: s.trace, running := some (.send f rep fails .sample cmd) } := by
  rw [runSteps_succ (step_of_running hp hr), sendStep_wait]

/-- After a sample at which `shutdown_req` is false the loop is at the head of its next repetition. -/
theorem runSteps_send_sample (hr : s.running = some (.send f rep fails .sample cmd))
    (hs : s.env.shutdown = false :: restS) : runSteps (k + 1) s = runSteps k
      (sendFrom f (rep + 1) fails cmd { s with env := { s.env with shutdown := restS } }) := by
  have hdraw := drawShutdown_scripted hs
  rw [runSteps_succ (step_of_running hp hr)]
  rcases sendStep_sample_cases f rep fails cmd s with ⟨htrue, -⟩ | ⟨-, hrep, he⟩ | ⟨-, hrep, he⟩
  · rw [hdraw] at htrue; exact nomatch htrue
  · rw [he, hdraw, sendFrom, if_pos (Nat.succ_le_of_lt hrep)]
  · rw [he, hdraw, sendFrom, if_neg (Nat.not_le_of_lt (Nat.lt_succ_of_le hrep))]

/-- One repetition: the write, its wait, and a sample at which `shutdown_req` is false. -/
theorem runSteps_repetition (he : s.env.Uninterrupted [a] restW restS)
    (hrep : rep ≤ s.cfg.repeatCount.toNat) : runSteps (k + 3) (sendFrom f rep fails cmd s) =
      runSteps k (sendFrom f (rep + 1) (countFail a fails) cmd (repeated f 1 restW restS s)) := by
  obtain ⟨hw, hs⟩ := he
  calc runSteps (k + 3) (sendFrom f rep fails cmd s)
    _ = runSteps (k + 3) { s with running := some (.send f rep fails .act cmd) } := by rw [sendFrom_of_le hrep]
    _ = runSteps (k + 2)
        { s with
          env := { s.env with writeOk := restW }, trace := .writeBlocking f :: s.trace
          running := some (.send f rep (countFail a fails) .wait cmd) } := runSteps_send_act hp rfl hw
    _ = runSteps (k + 1)
        { s with
          env := { s.env with writeOk := restW }, trace := .wait s.cfg.delayMs.toNat :: .writeBlocking f :: s.trace
          running := some (.send f rep (countFail a fails) .sample cmd) } := runSteps_send_wait hp rfl
    _ = runSteps k (sendFrom f (rep + 1) (countFail a fails) cmd
        { repeated f 1 restW restS s with running := some (.send f rep (countFail a fails) .sample cmd) }) :=
      runSteps_send_sample hp rfl hs
    _ = runSteps k (sendFrom f (rep + 1) (countFail a fails) cmd (repeated f 1 restW restS s)) := by
      rw [sendFrom_running]

end repetition

/-- The loop from the head of any repetition to its end. -/
theorem runSteps_sendFrom {s : State} {answers restW restS : List Bool} {rep fails : Nat} (hp : s.path = none)
    (he : s.env.Uninterrupted answers restW restS) (hn : rep + answers.length = s.cfg.repeatCount.toNat + 1)
    (f : Bytes) (cmd : Option Command) :
    runSteps (3 * answers.length) (sendFrom f rep fails cmd s) =
      .next (sendDone (fails + answers.count false) cmd (repeated f answers.length restW restS s)) := by
  induction answers generalizing s rep fails with
  | nil =>
    rw [sendFrom_of_lt (rep := rep) hn.ge, List.length_nil, repeated_zero he]
    rfl
  | cons a answers ih =>
    rw [List.length_cons] at hn
    have hrest := ih (s := repeated f 1 (answers ++ restW) (List.replicate answers.length false ++ restS) s)
      (rep := rep + 1) (fails := countFail a fails) hp ⟨rfl, rfl⟩ (hn ▸ Nat.succ_add_eq_add_succ rep _)
    rw [List.length_cons, Nat.mul_succ, runSteps_repetition hp (he.left (a := [a])) (by omega), hrest, repeated_repeated,
      countFail_add_count, Nat.add_comm 1]

/-- The repetition loop as a whole: `CFG_REPEAT` repetitions whatever the driver answers, and failed writes counted. -/
theorem runSteps_beginSend {s : State} {answers restW restS : List Bool} (hp : s.path = none)
    (he : s.env.Uninterrupted answers restW restS) (hn : answers.length = s.cfg.repeatCount.toNat)
    (f : Bytes) (fails : Nat) (cmd : Option Command) :
    runSteps (3 * answers.length) (beginSend f fails cmd s) =
      .next (sendDone (fails + answers.count false) cmd (repeated f answers.length restW restS s)) := by
  rw [beginSend_eq_sendFrom]
  exact runSteps_sendFrom hp he (by omega) f cmd

/-! `SEND` (R225). -/

theorem exec_send (f : Bytes) (s : State) :
    exec (.send f) s = .next (if ready s = true ∧ f.length = 17 then beginSend f 0 none s else refuse s) := rfl

/-- Settles O28: the loop at its head, run to its end. -/
theorem sendRepeatsBlindly : Obligations.SendRepeatsBlindly := by
  refine ⟨fun _ hop => decodeRequest_of_lookup hop rfl, fun s f hf => ?_, ?_⟩
  · rw [exec_send, if_neg fun h => hf h.2, refuse_eq]
  intro s f answers restW restS hi hf hp hlen hn hw hs
  rw [← hn] at hs ⊢
  rw [exec_send, if_pos ⟨ready_of_session hi hf, hlen⟩]
  refine ⟨_, rfl, ?_⟩
  rw [runSteps_beginSend hp ⟨hw, hs⟩ hn, sendDone_none, Nat.zero_add]
  rfl

/-! The command operations (R227, R240, R241). A code of the table on the data path, with the counter of its frame, is built
into the frame; the frame starts its loop; the loop ends the frame. -/

/-- The first frame has the counter `c` that was chosen (R223). -/
theorem frameCounter_of_one {cmd : Command} (h : cmd.frameIx = 1) : cmd.frameCounter = cmd.counter := by
  rw [Command.frameCounter, h, BitVec.add_zero]

/-- The second frame has the counter `(c + 1) mod 256` (R223). -/
theorem frameCounter_of_two {cmd : Command} (h : cmd.frameIx = 2) : cmd.frameCounter = cmd.counter + 1 := by
  rw [Command.frameCounter, h]
  rfl

/-- The state once the frame of a code has been built and sent `n` times, and the data path is empty again. -/
def frameSent (code : BitVec 16) (counter : Byte) (n : Nat) (restW restS : List Bool) (s : State) : State :=
  repeated (frameOf s.devId s.cfg.sep counter code) n restW restS
    { s with crcReg := checksum (window s.devId s.cfg.sep counter code), path := none }

/-- A code of the table on the data path of a running command operation. -/
theorem step_of_code {s : State} {code : BitVec 16} {cmd : Command} {fails : Nat} (hp : s.path = some (.code code))
    (hr : s.running = some (.emit cmd fails)) (hc : listedCode code) :
    step s = .next (buildFrame code cmd.frameCounter s) := by
  obtain ⟨i, hi⟩ := hc
  obtain ⟨hcode, -⟩ := encode_of_decodeCode hi
  rw [step_of_path hp hi, exec_of_encode_code hcode]
  exact emitCode_of_emit (s := s.putPath none) hr code

/-- A frame on the data path of a running command operation. -/
theorem step_of_frame {s : State} {id : BitVec 24} {sep counter : Byte} {code : BitVec 16} {cmd : Command} {fails : Nat}
    (hp : s.path = some (.frame (frameOf id sep counter code))) (hr : s.running = some (.emit cmd fails)) :
    step s = .next (beginSend (frameOf id sep counter code) fails (some cmd) (s.putPath none)) := by
  rw [step_of_path hp (decodeFrame_frameBytes id sep counter code _)]
  exact emitFrame_of_emit (s := s.putPath none) hr _

section commands

variable {s : State} {code : BitVec 16} {answers restW restS : List Bool}

/-- One frame of a command operation, from its code on the data path to the end of its loop (R227). -/
theorem runSteps_code {cmd : Command} {fails : Nat} (hp : s.path = some (.code code))
    (hr : s.running = some (.emit cmd fails)) (hc : listedCode code) (he : s.env.Uninterrupted answers restW restS)
    (hn : answers.length = s.cfg.repeatCount.toNat) : runSteps (2 + 3 * answers.length) s = .next
      (commandSent cmd (fails + answers.count false) (frameSent code cmd.frameCounter answers.length restW restS s)) := by
  have hframe := step_of_frame (s := buildFrame code cmd.frameCounter s) rfl hr
  have hloop := runSteps_beginSend (s := (buildFrame code cmd.frameCounter s).putPath none) rfl he hn
    (frameOf s.devId s.cfg.sep cmd.frameCounter code) fails (some cmd)
  rw [Nat.add_comm, runSteps_succ (step_of_code hp hr hc), runSteps_succ hframe]
  exact hloop

/-- A command operation in a session, from its first code to the end of its first frame. -/
theorem runSteps_startCommand (h : ready s = true) (hc : listedCode code) (he : s.env.Uninterrupted answers restW restS)
    (hn : answers.length = s.cfg.repeatCount.toNat) (next : Option (BitVec 16)) (ctr : Option Byte) :
    runSteps (2 + 3 * answers.length) (startCommand code next ctr s) = .next
      (commandSent ⟨ctr.getD s.seqCtr, ctr.isNone, 1, next⟩ (answers.count false)
        (frameSent code (ctr.getD s.seqCtr) answers.length restW restS s)) := by
  have hrun := runSteps_code
    (s := { s with running := some (.emit ⟨ctr.getD s.seqCtr, ctr.isNone, 1, next⟩ 0), path := some (.code code) })
    rfl rfl hc he hn
  rw [startCommand_ready h, hrun, Nat.zero_add, frameCounter_of_one rfl]
  exact congrArg Host.Outcome.next (commandSent_running _ _ _ (frameSent code _ _ _ _ s))

end commands

/-- What each one-frame operation hands to the data path, as in the table of R102 (R230 to R235). -/
theorem exec_oneFrame {s : State} {ctr : Option Byte} {st : Option Int} {i : Instr} {code : BitVec 16}
    (h : (i, code) ∈ [(Instr.pwr ctr, 0x01#8 ++ s.cfg.pwrArg), (Instr.rst ctr, 0x06#8 ++ s.cfg.rstArg),
      (Instr.cool st ctr, BitVec.ofNat 16 (0x0200 + clampStep (st.getD 1))),
      (Instr.warm st ctr, subCode s.build.subWidth 0x03 (clampStep (st.getD 1))),
      (Instr.brt st ctr, BitVec.ofNat 16 (0x0400 + clampStep (st.getD 1))),
      (Instr.dim st ctr, subCode s.build.subWidth 0x05 (clampStep (st.getD 1)))]) :
    exec i s = .next (startCommand code none ctr s) ∧ listedCode code := by
  have hstep (v : Int) : clampStep v ≤ satStep := (clampStep_lt v).le
  simp only [List.mem_cons, Prod.mk.injEq, List.not_mem_nil, or_false] at h
  rcases h with ⟨rfl, rfl⟩ | ⟨rfl, rfl⟩ | ⟨rfl, rfl⟩ | ⟨rfl, rfl⟩ | ⟨rfl, rfl⟩ | ⟨rfl, rfl⟩
  · rw [← addCode_power]; exact ⟨rfl, listedCode_power _⟩
  · rw [← addCode_reset]; exact ⟨rfl, listedCode_reset _⟩
  · exact ⟨rfl, listedCode_addStep (family := familyCooler) (by simp) _⟩
  · exact ⟨rfl, listedCode_subStep (family := familyWarmer) (by simp) _ (hstep _)⟩
  · exact ⟨rfl, listedCode_addStep (family := familyBrighter) (by simp) _⟩
  · exact ⟨rfl, listedCode_subStep (family := familyDimmer) (by simp) _ (hstep _)⟩

/-- Settles O29: the operation's code, run to the end of its one frame. -/
theorem oneFrameOperationsComplete : Obligations.OneFrameOperationsComplete := by
  intro s ctr st i code answers restW restS t c f hmem hi hf hn hw hs
  obtain ⟨hexec, hlisted⟩ := exec_oneFrame hmem
  rw [← hn] at hs ⊢
  refine ⟨_, hexec, ?_⟩
  rw [runSteps_startCommand (ready_of_session hi hf) hlisted ⟨hw, hs⟩ hn, commandSent_of_ctr]
  rfl

/-- What the two two-frame operations hand to the data path: the saturate code, and the code that follows it (R240, R241). -/
theorem exec_twoFrame {s : State} {ctr : Option Byte} {v : Int} {i : Instr} {code1 code2 : BitVec 16}
    (h : (i, code1, code2) ∈
      [(Instr.setbrt v ctr, subCode s.build.subWidth 0x05 16, BitVec.ofNat 16 (0x0400 + clampStep v)),
        (Instr.setct v ctr, subCode s.build.subWidth 0x03 16, BitVec.ofNat 16 (0x0200 + clampStep v))]) :
    exec i s = .next (startCommand code1 (some code2) ctr s) ∧ listedCode code1 ∧ listedCode code2 := by
  simp only [List.mem_cons, Prod.mk.injEq, List.not_mem_nil, or_false] at h
  rcases h with ⟨rfl, rfl, rfl⟩ | ⟨rfl, rfl, rfl⟩
  · exact ⟨rfl, listedCode_subStep (family := familyDimmer) (by simp) _ le_rfl,
      listedCode_addStep (family := familyBrighter) (by simp) v⟩
  · exact ⟨rfl, listedCode_subStep (family := familyWarmer) (by simp) _ le_rfl,
      listedCode_addStep (family := familyCooler) (by simp) v⟩

/-- Settles O30: the answers cut in two; the first frame is run to the end of its loop, which puts the second code on the
data path, and the second frame from there. -/
theorem twoFrameOperationsComplete : Obligations.TwoFrameOperationsComplete := by
  intro s ctr v i code1 code2 answers restW restS c n hmem hi hf hn hw hs
  obtain ⟨hexec, hlisted1, hlisted2⟩ := exec_twoFrame hmem
  obtain ⟨a, b, rfl, ha, hb⟩ : ∃ a b, answers = a ++ b ∧ a.length = n ∧ b.length = n :=
    ⟨answers.take n, answers.drop n, (List.take_append_drop n answers).symm, by rw [List.length_take]; omega,
      by rw [List.length_drop]; omega⟩
  rw [← hn] at hs
  have he : s.env.Uninterrupted (a ++ b) restW restS := ⟨hw, hs⟩
  have hfirst := runSteps_startCommand (ready_of_session hi hf) hlisted1 he.left ha (some code2) ctr
  have hsecond := runSteps_code (answers := b) (restW := restW) (restS := restS) (cmd := ⟨c, ctr.isNone, 2, none⟩)
    (s := commandSent ⟨c, ctr.isNone, 1, some code2⟩ (a.count false)
      (frameSent code1 c a.length (b ++ restW) (List.replicate b.length false ++ restS) s)) rfl rfl hlisted2 ⟨rfl, rfl⟩ hb
  refine ⟨_, hexec, ?_⟩
  have hsteps : 4 + 6 * n = (2 + 3 * a.length) + (2 + 3 * b.length) := by omega
  rw [hsteps, runSteps_add hfirst, hsecond, commandSent_of_ctr, ← List.count_append, ha, hb]
  rfl


/-! The rows of the data path (R227, R225). -/

/-- Settles O43: what the encoder writes for each row is the row's code, and a code on the path is built into its frame. -/
theorem everyListedCodeIsBuiltIntoAFrame : Obligations.EveryListedCodeIsBuiltIntoAFrame := by
  intro s cmd fails p r t n i code hr hix hmem c
  have hencode : encode i = .code code := by
    refine (?_ : ∀ row ∈ (_ : List (Instr × BitVec 16)), encode row.1 = .code row.2) _ hmem
    simp only [List.forall_mem_cons]
    exact ⟨congrArg Item.code (addCode_power p), congrArg Item.code (addCode_cooler t), rfl,
      congrArg Item.code (subCode_warmer_w8 n), congrArg Item.code (subCode_warmer_w16 n), rfl, rfl,
      congrArg Item.code (addCode_brighter t), rfl, congrArg Item.code (subCode_dimmer_w8 n),
      congrArg Item.code (subCode_dimmer_w16 n), rfl, rfl, congrArg Item.code (addCode_reset r), by simp⟩
  have hcounter : cmd.frameCounter = c := by
    rcases hix with h | h
    · exact (frameCounter_of_one h).trans (if_pos h).symm
    · exact (frameCounter_of_two h).trans (if_neg (by omega)).symm
  rw [exec_of_encode_code hencode, emitCode_of_emit hr, hcounter, buildFrame_eq]

/-- Settles O44: the head of the loop at both values of its count, and the end of the frame with and without a second
code. -/
theorem aFrameOnThePathIsTransmitted : Obligations.AFrameOnThePathIsTransmitted := by
  intro s cmd fails id sep counter code crc hr
  have hexec : exec (.frame id sep counter code crc) s =
      .next (beginSend (frameBytes id sep counter code crc) fails (some cmd) s) := emitFrame_of_emit hr _
  rw [hexec]
  refine ⟨fun hn => ?_, fun hn hnone => ?_, fun hn w hw => ?_⟩
  · rw [beginSend_pos hn, frameBytes_eq, window_eq, preambleBytes_eq]
  · rw [beginSend_zero hn, sendDone_some, commandSent_last hnone]
  · rw [beginSend_zero hn, sendDone_some, commandSent_next hw]

/-! Steps (R221). -/

theorem clampStep_eq (v : Int) : clampStep v = (if v < 0 then 0 else if v > 15 then 15 else v).toNat := rfl

/-- Settles O27: the clamp at its three ranges; a step left out reads as 1. -/
theorem stepsAreClamped : Obligations.StepsAreClamped := by
  refine ⟨fun v hv => ?_, fun v hv => ?_, fun v h0 h15 => ?_, fun s ctr => ⟨rfl, rfl, rfl, rfl⟩⟩
  · rw [clampStep_eq, if_pos hv]; rfl
  · rw [clampStep_eq, if_neg (by omega), if_pos hv]; rfl
  · rw [clampStep_eq, if_neg (by omega), if_neg (by omega), Int.toNat_of_nonneg h0]

/-! The scale maps (R262, R263). -/

theorem exec_scaleBrt (b : Int) (s : State) : exec (.scaleBrt b) s = .next
    (if 0 ≤ b ∧ b ≤ 255 then s.respond (reply .ok (.scaled (scaleBrtOf s.build b.toNat))) else refuse s) := rfl

theorem exec_scaleCt (m : Int) (s : State) : exec (.scaleCt m) s = .next
    (if 153 ≤ m ∧ m ≤ 370 then s.respond (reply .ok (.scaled (scaleCtOf s.build m.toNat))) else refuse s) := rfl

/-- A value of the internal scale fits its four bits (R121). -/
theorem toNat_scaled {v : Nat} (h : v ≤ 15) : (BitVec.ofNat 4 v).toNat = v := by
  rw [BitVec.toNat_ofNat, Nat.mod_eq_of_lt (by omega)]

/-- A map on an initial part of the naturals as the list of its points. -/
theorem lookup_points {g : Nat → BitVec 4} {n b : Nat} (h : b < n) :
    ((List.range n).map fun x => (x, g x)).lookup b = some (g b) :=
  List.lookup_graph g (List.mem_range.mpr h)

/-- Settles O32: the select code's row, the range, the default, and for any map the build that lists all its points. -/
theorem scaleBrightness : Obligations.ScaleBrightness := by
  refine ⟨fun _ hop => decodeRequest_of_lookup hop rfl, fun s b => ⟨fun h => ?_, fun h0 h255 => ?_⟩, fun d b hd hb => ?_,
    fun d g => ⟨(List.range 256).map fun b => (b, g b), fun b hb => ?_⟩⟩
  · rw [exec_scaleBrt, if_neg (by omega), refuse_eq]
  · rw [exec_scaleBrt, if_pos ⟨h0, h255⟩]; rfl
  · rw [scaleBrtOf, hd, List.lookup_nil, Option.getD_none, scaleBrtDefault_eq]
    exact toNat_scaled (by omega)
  · rw [scaleBrtOf, lookup_points (by omega), Option.getD_some]

/-- The map of a build, given by its values at the fixed points and by what the build says elsewhere. -/
theorem scaleCtOf_eq {d : Build} {g : Nat → BitVec 4} (h153 : g 153 = 15) (h219 : g 219 = 7) (h370 : g 370 = 0) {m : Nat}
    (h : (d.scaleCt.lookup m).getD (scaleCtDefault m) = g m) : scaleCtOf d m = g m := by
  by_cases hfix : m = 153 ∨ m = 219 ∨ m = 370
  · rcases hfix with rfl | rfl | rfl
    · exact h153.symm
    · exact h219.symm
    · exact h370.symm
  · have hnone : scaleCtFixed.lookup m = none := by
      simpa [scaleCtFixed_eq, List.lookup_eq_none_iff] using hfix
    rw [scaleCtOf, hnone]
    exact h

/-- A rounded segment is `floor(q + 1/2)` on the line through its two corners. -/
theorem roundedSegment_eq_floor {p r : Nat × Nat} {m : Nat} (h0 : p.1 ≤ m) (h1 : m ≤ r.1) (hlt : p.1 < r.1)
    (hle : r.2 ≤ p.2) : (roundedSegment p r m : Int) =
      ⌊((p.2 : ℚ) - (p.2 - r.2) * ((m : ℚ) - p.1) / (r.1 - p.1)) + 1 / 2⌋ := by
  have hsub : 2 * (p.2 - r.2) * (m - p.1) ≤ 2 * p.2 * (r.1 - p.1) + (r.1 - p.1) :=
    (Nat.mul_le_mul (by omega) (by omega)).trans (Nat.le_add_right _ _)
  have hpos : (r.1 : ℚ) - p.1 ≠ 0 := sub_ne_zero.mpr (by exact_mod_cast hlt.ne')
  rw [roundedSegment, Int.natCast_ediv, ← Rat.floor_intCast_div_natCast]
  congr 1
  push_cast [Nat.cast_sub hsub, Nat.cast_sub h0, Nat.cast_sub hlt.le, Nat.cast_sub hle]
  field_simp
  ring

theorem scaleCtDefault_toNat_low {m : Nat} (h : m ≤ 219) : (scaleCtDefault m).toNat = roundedSegment ctLow ctCorner m := by
  rw [scaleCtDefault_low h]
  exact toNat_scaled (by omega)

/-- At the corner the two segments agree. -/
theorem scaleCtDefault_toNat_high {m : Nat} (h : 219 ≤ m) : (scaleCtDefault m).toNat = roundedSegment ctCorner ctHigh m := by
  obtain rfl | hlt := h.eq_or_lt
  · rfl
  · rw [scaleCtDefault_high hlt]
    exact toNat_scaled (by omega)

/-- With the default rounding the fixed points are points of the default map. -/
theorem scaleCtOf_default {d : Build} (h : d.scaleCt = []) (m : Nat) : scaleCtOf d m = scaleCtDefault m :=
  scaleCtOf_eq rfl rfl rfl (by rw [h]; rfl)

/-- Settles O33: the select code's row, the range, the fixed points, the two default segments, and for any map through the
fixed points the build that lists all its points. -/
theorem scaleColourTemperature : Obligations.ScaleColourTemperature := by
  refine ⟨fun _ hop => decodeRequest_of_lookup hop rfl, fun s m => ⟨fun h => ?_, fun h0 h1 => ?_⟩,
    fun d => ⟨rfl, rfl, rfl, fun hd => ⟨fun m h0 h1 => ?_, fun m h0 h1 => ?_⟩⟩,
    fun d g h153 h219 h370 => ⟨(List.range 371).map fun m => (m, g m), fun m _ h1 => ?_⟩⟩
  · rw [exec_scaleCt, if_neg (by omega), refuse_eq]
  · rw [exec_scaleCt, if_pos ⟨h0, h1⟩]; rfl
  · rw [scaleCtOf_default hd, scaleCtDefault_toNat_low h1, roundedSegment_eq_floor h0 h1 (by decide) (by decide)]
    norm_num [ctLow, ctCorner]
  · rw [scaleCtOf_default hd, scaleCtDefault_toNat_high h0, roundedSegment_eq_floor h0 h1 (by decide) (by decide)]
    norm_num [ctCorner, ctHigh]
  · exact scaleCtOf_eq h153 h219 h370 (by rw [lookup_points (by omega), Option.getD_some])

end Sys2Proof.Machine

/-! ## The Radio Mode Arbiter

The attempt to switch by its two outcomes; then `SWMODE` and the head of `TRYSW`, one attempt of the loop, and the loop as a
run through its busy attempts. -/

namespace Sys2Proof.Machine

/-! The attempt (R272, R273, R286). -/

section attempts

variable {s : State} {d : Direction} {b : Bool} {e : Env}

theorem attemptSwitch_of_busy (hr : s.radioState = .listening) (hd : s.env.drawInflight = (true, e)) :
    attemptSwitch .transmitting s = (false, { s with env := e }) := by
  rcases attemptSwitch_cases .transmitting s with ⟨he, -⟩ | ⟨-, hfree⟩
  · rw [he, hd]
  · exact absurd ⟨rfl, hr, by rw [hd]⟩ hfree

theorem attemptSwitch_of_free (hd : s.env.drawInflight = (b, e))
    (hfree : ¬(d = .transmitting ∧ s.radioState = .listening ∧ b = true)) :
    attemptSwitch d s = (true, switchTo d { s with env := e }) := by
  rcases attemptSwitch_cases d s with ⟨-, hbusy⟩ | ⟨he, -⟩
  · rw [hd] at hbusy; exact absurd hbusy hfree
  · rw [he, hd]

end attempts

/-! `SWMODE` (R272, R278). -/

theorem exec_swmode {s : State} (h : ready s = true) (d : Direction) :
    exec (.swmode d) s = .next (switchReply (attemptSwitch d s)) := by
  rw [exec, execSwmode, if_pos h]

theorem exec_swmode_of_free {s : State} {d : Direction} {b : Bool} {e : Env} (h : ready s = true)
    (hd : s.env.drawInflight = (b, e)) (hfree : ¬(d = .transmitting ∧ s.radioState = .listening ∧ b = true)) :
    exec (.swmode d) s = .next ((switchTo d { s with env := e }).respond (reply .ok .none)) := by
  rw [exec_swmode h, attemptSwitch_of_free hd hfree, switchReply, if_pos rfl]

/-- Settles O34: the select code's row, and the two outcomes of the attempt. -/
theorem swmodeTransitionTable : Obligations.SwmodeTransitionTable := by
  refine ⟨fun _ hop => decodeRequest_of_lookup hop rfl, fun s b e hi hf hd => ⟨?_, fun hl hb => ?_, fun hfree => ?_⟩⟩
  · rw [exec_swmode_of_free (ready_of_session hi hf) hd (by simp), switchTo_eq]
    rfl
  · rw [exec_swmode (ready_of_session hi hf), attemptSwitch_of_busy hl (hb ▸ hd)]
    rfl
  · rw [exec_swmode_of_free (ready_of_session hi hf) hd fun ⟨_, hl, hb⟩ => by simp [hl, hb] at hfree, switchTo_eq]
    rfl

/-! The head of `TRYSW` (R280, R285). -/

theorem exec_trysw_start {s : State} (h : ready s = true) (hn : s.cfg.maxRetries ≠ 0) (d : Direction) (fb : Bool) :
    exec (.trysw d fb) s = .next { s with running := some (.trysw d fb 1 .act) } := by
  rw [exec, execTrysw, if_pos h, if_neg hn, State.putRunning]

theorem exec_trysw_exhausted {s : State} (h : ready s = true) (hn : s.cfg.maxRetries = 0) (d : Direction) (fb : Bool) :
    exec (.trysw d fb) s = .next (exhausted fb 0 s) := by
  rw [exec, execTrysw, if_pos h, if_pos hn]

/-- Settles O35: the select code's row, and the head of the loop at both values of its bound. -/
theorem tryswStartsOrIsExhaustedAtOnce : Obligations.TryswStartsOrIsExhaustedAtOnce :=
  ⟨fun _ hop => decodeRequest_of_lookup hop rfl, fun _ d hi hf =>
    ⟨fun hn => exec_trysw_start (ready_of_session hi hf) hn d, fun hn =>
      ⟨exec_trysw_exhausted (ready_of_session hi hf) hn d true, exec_trysw_exhausted (ready_of_session hi hf) hn d false⟩⟩⟩

/-! One step of the attempt loop (R280). -/

section attemptLoop

variable {s : State} {d : Direction} {fb : Bool} {n k : Nat} {e : Env} {rest : List Bool} (hp : s.path = none)

include hp

/-- An attempt that is not busy switches the radio and ends the operation. -/
theorem step_attempt_of_free {b : Bool} (hr : s.running = some (.trysw d fb n .act)) (hd : s.env.drawInflight = (b, e))
    (hfree : ¬(d = .transmitting ∧ s.radioState = .listening ∧ b = true)) :
    step s = .next ((switchTo d { s with env := e }).finish (reply .ok (.trySwitch true n false))) := by
  rw [step_of_running hp hr, continueRun, tryStep, attemptSwitch_of_free hd hfree, attemptDone, if_pos rfl]

/-- The last attempt, when it is busy, is followed by exhaustion. -/
theorem step_attempt_of_last (hr : s.running = some (.trysw .transmitting fb n .act)) (hl : s.radioState = .listening)
    (hd : s.env.drawInflight = (true, e)) (hn : s.cfg.maxRetries.toNat ≤ n) :
    step s = .next (exhausted fb n { s with env := e }) := by
  rw [step_of_running hp hr, continueRun, tryStep, attemptSwitch_of_busy hl hd, attemptDone, if_neg Bool.false_ne_true,
    if_neg (Nat.not_lt.mpr hn)]

/-- A busy attempt that is not the last is followed by its backoff. -/
theorem runSteps_attempt_of_busy (hr : s.running = some (.trysw .transmitting fb n .act)) (hl : s.radioState = .listening)
    (ht : s.env.txInflight = true :: rest) (hn : n < s.cfg.maxRetries.toNat) : runSteps (k + 1) s = runSteps k
      { s with env := { s.env with txInflight := rest }, running := some (.trysw .transmitting fb n .wait) } := by
  rw [runSteps_succ (step_of_running hp hr), tryStep, attemptSwitch_of_busy hl (drawInflight_scripted ht), attemptDone,
    if_neg Bool.false_ne_true, if_pos hn, State.putRunning]

theorem runSteps_backoff (hr : s.running = some (.trysw d fb n .wait)) : runSteps (k + 1) s = runSteps k
    { s with trace := .wait s.cfg.backoffMs.toNat :: s.trace, running := some (.trysw d fb n .sample) } := by
  rw [runSteps_succ (step_of_running hp hr), tryStep_wait]

/-- A sample at which `shutdown_req` is false leads to the next attempt. -/
theorem runSteps_backoff_sample (hr : s.running = some (.trysw d fb n .sample)) (hs : s.env.shutdown = false :: rest) :
    runSteps (k + 1) s = runSteps k
      { s with env := { s.env with shutdown := rest }, running := some (.trysw d fb (n + 1) .act) } := by
  have hdraw := drawShutdown_scripted hs
  rw [runSteps_succ (step_of_running hp hr)]
  rcases tryStep_sample_cases d fb n s with ⟨htrue, -⟩ | ⟨-, he⟩
  · rw [hdraw] at htrue; exact nomatch htrue
  · rw [he, hdraw]

end attemptLoop

/-- Settles O38: the head of the loop, and its first attempt, which is not busy. -/
theorem tryswFirstAttemptSucceeds : Obligations.TryswFirstAttemptSucceeds := by
  intro s d fb b e hi hf hp hn hfree hd
  refine ⟨_, exec_trysw_start (ready_of_session hi hf) hn d fb, ?_⟩
  have hnotBusy : ¬(d = .transmitting ∧ s.radioState = .listening ∧ b = true) := by
    rintro ⟨rfl, hl, -⟩
    exact hfree.elim nofun (absurd hl)
  have hswitch := step_attempt_of_free (s := { s with running := some (.trysw d fb 1 .act) }) hp rfl hd hnotBusy
  rw [hswitch, finish_eq, switchTo_eq]
  rfl

/-! The attempt loop as a run through its busy attempts (R280 to R283). -/

/-- `tx_inflight` is true at the next `n` attempts, and `shutdown_req` false after each of their backoffs. -/
structure Env.Busy (n : Nat) (restT restS : List Bool) (e : Env) : Prop where
  inflight : e.txInflight = List.replicate n true ++ restT
  samples : e.shutdown = List.replicate n false ++ restS

/-- `TRYSW Transmitting` after `n` busy attempts, each with its backoff, at the head of attempt `next`. -/
def backedOff (fb : Bool) (next n : Nat) (restT restS : List Bool) (s : State) : State :=
  { s with
    running := some (.trysw .transmitting fb next .act)
    env := { s.env with txInflight := restT, shutdown := restS }
    trace := List.replicate n (.wait s.cfg.backoffMs.toNat) ++ s.trace }

theorem backedOff_zero {s : State} {fb : Bool} {next : Nat} {restT restS : List Bool} (he : s.env.Busy 0 restT restS) :
    backedOff fb next 0 restT restS s = { s with running := some (.trysw .transmitting fb next .act) } := by
  obtain ⟨ht, hs⟩ := he
  obtain rfl : s.env.txInflight = restT := ht
  obtain rfl : s.env.shutdown = restS := hs
  rfl

theorem backedOff_backedOff (fb : Bool) (a c m n : Nat) (t r restT restS : List Bool) (s : State) :
    backedOff fb c n restT restS (backedOff fb a m t r s) = backedOff fb c (n + m) restT restS s := by
  rw [backedOff, backedOff, backedOff, List.replicate_add, List.append_assoc]

section busyRun

variable {s : State} {fb : Bool} {a : Nat} {restT restS : List Bool}

/-- One busy attempt with another to come: the attempt, its backoff, and a sample at which `shutdown_req` is false. -/
theorem runSteps_busy_attempt (hp : s.path = none) (hr : s.running = some (.trysw .transmitting fb a .act))
    (hl : s.radioState = .listening) (ht : s.env.txInflight = true :: restT) (hs : s.env.shutdown = false :: restS)
    (ha : a < s.cfg.maxRetries.toNat) (k : Nat) :
    runSteps (k + 3) s = runSteps k (backedOff fb (a + 1) 1 restT restS s) := by
  calc runSteps (k + 3) s
    _ = runSteps (k + 2)
        { s with env := { s.env with txInflight := restT }, running := some (.trysw .transmitting fb a .wait) } :=
      runSteps_attempt_of_busy hp hr hl ht ha
    _ = runSteps (k + 1)
        { s with
          env := { s.env with txInflight := restT }, trace := .wait s.cfg.backoffMs.toNat :: s.trace
          running := some (.trysw .transmitting fb a .sample) } := runSteps_backoff hp rfl
    _ = runSteps k (backedOff fb (a + 1) 1 restT restS s) := runSteps_backoff_sample hp rfl hs

/-- From attempt `a` through `n` busy attempts, each of them with another to come. -/
theorem runSteps_busy_attempts {n : Nat} (hp : s.path = none) (hr : s.running = some (.trysw .transmitting fb a .act))
    (hl : s.radioState = .listening) (he : s.env.Busy n restT restS) (hn : a + n ≤ s.cfg.maxRetries.toNat) (k : Nat) :
    runSteps (3 * n + k) s = runSteps k (backedOff fb (a + n) n restT restS s) := by
  induction n generalizing s a with
  | zero => rw [backedOff_zero he, Nat.mul_zero, Nat.zero_add, Nat.add_zero, ← hr]
  | succ n ih =>
    obtain ⟨ht, hs⟩ := he
    have hfirst := runSteps_busy_attempt hp hr hl ht hs (by omega) (3 * n + k)
    have hrest := ih (s := backedOff fb (a + 1) 1 (List.replicate n true ++ restT) (List.replicate n false ++ restS) s)
      hp rfl hl ⟨rfl, rfl⟩ (le_of_eq_of_le (by omega) hn)
    calc runSteps (3 * (n + 1) + k) s
      _ = runSteps (3 * n + k + 3) s := by congr 1; omega
      _ = _ := hfirst.trans hrest
      _ = runSteps k (backedOff fb (a + (n + 1)) (n + 1) restT restS s) := by
        rw [backedOff_backedOff, Nat.add_assoc, Nat.add_comm 1 n]

end busyRun

/-- `TRYSW Transmitting` out of `Listening`, from its head through `n` busy attempts, each of them with another to come. -/
theorem runSteps_trysw {s : State} {n : Nat} {restT restS : List Bool} (hp : s.path = none) (hl : s.radioState = .listening)
    (he : s.env.Busy n restT restS) (hn : n < s.cfg.maxRetries.toNat) (fb : Bool) (k : Nat) :
    runSteps (3 * n + k) { s with running := some (.trysw .transmitting fb 1 .act) } =
      runSteps k (backedOff fb (n + 1) n restT restS s) := by
  have hrun := runSteps_busy_attempts (s := { s with running := some (.trysw .transmitting fb 1 .act) }) hp rfl hl he
    (Nat.one_add_le_iff.mpr hn) k
  rwa [Nat.add_comm 1 n] at hrun

theorem maxRetries_ne_zero {s : State} {n : Nat} (h : n < s.cfg.maxRetries.toNat) : s.cfg.maxRetries ≠ 0 :=
  fun h0 => Nat.not_lt_zero n (by rw [h0] at h; exact h)

/-- Settles O36: the loop through its first `n` attempts, then the last one, which is busy too. -/
theorem tryswExhaustsItsBound : Obligations.TryswExhaustsItsBound := by
  intro s fb n restT restS hi hf hp hl hn ht hs
  have he : s.env.Busy n (true :: restT) restS := ⟨by rw [ht, List.replicate_succ', List.append_assoc]; rfl, hs⟩
  have hlast := step_attempt_of_last (s := backedOff fb (n + 1) n (true :: restT) restS s) hp rfl hl
    (drawInflight_scripted rfl) hn.le
  refine ⟨_, exec_trysw_start (ready_of_session hi hf) (maxRetries_ne_zero (n := n) (by omega)) _ fb, ?_⟩
  rw [runSteps_trysw hp hl he (by omega), runSteps_succ hlast, runSteps_zero, exhausted_eq]
  rfl

/-- Settles O37: the loop through its `k` busy attempts, then one that is not. -/
theorem tryswSucceedsAtTheFirstFreeAttempt : Obligations.TryswSucceedsAtTheFirstFreeAttempt := by
  intro s fb k restT restS hi hf hp hl hk ht hs
  have hfree := step_attempt_of_free (s := backedOff fb (k + 1) k (false :: restT) restS s) hp rfl
    (drawInflight_scripted rfl) (by simp)
  refine ⟨_, exec_trysw_start (ready_of_session hi hf) (maxRetries_ne_zero hk) _ fb, ?_⟩
  rw [runSteps_trysw hp hl ⟨ht, hs⟩ hk, runSteps_succ hfree, runSteps_zero, finish_eq, switchTo_eq]
  rfl

end Sys2Proof.Machine

/-! ## Who switches the radio

`radio_state` and the recorded calls of `drv.configure` and `drv.open` are one view of the state. Every step that is no
`SWMODE` and no attempt of `TRYSW` keeps this view, or resets the block after a release. -/

namespace Sys2Proof.Machine

/-- The two driver calls of a switch (R272). -/
def Event.isSwitchCall : Event → Bool
  | .configure .. => true
  | .openRadio .. => true
  | _ => false

theorem Event.not_switch {e : Event} (h : e.isSwitchCall = false) :
    (∀ c p r n m, e ≠ .configure c p r n m) ∧ ∀ d p, e ≠ .openRadio d p := by
  constructor
  · rintro c p r n m rfl; exact nomatch h
  · rintro d p rfl; exact nomatch h

/-- What a switch changes: `radio_state`, and the calls of a switch so far. -/
def State.radioView (s : State) : RadioState × List Event := (s.radioState, s.trace.filter Event.isSwitchCall)

/-- Events that are no calls of a switch are not in the view. -/
theorem no_switchCalls {s t : State} {new : List Event} (hview : t.radioView = s.radioView)
    (htrace : t.trace = new ++ s.trace) : ∀ e ∈ new, e.isSwitchCall = false := by
  obtain ⟨-, hcalls⟩ := Prod.mk.inj hview
  simpa [htrace] using hcalls

/-! What the instructions and the loops share. -/

theorem radioView_guarded {s t : State} {p : Prop} [Decidable p] (h : t.radioView = s.radioView) :
    (if p then t else refuse s).radioView = s.radioView := by
  split
  · exact h
  · rfl

section views

variable (s : State)

theorem radioView_exhausted (fb : Bool) (n : Nat) : (exhausted fb n s).radioView = s.radioView := by
  cases fb with
  | true => rfl
  | false => rfl

theorem radioView_deliver (r : Response) : (deliver r s).radioView = s.radioView := by
  rcases deliver_cases r s with ⟨_, -, he⟩ | ⟨-, he⟩
  · rw [he]; rfl
  · rw [he]; rfl

theorem radioView_validate (p : DecodedPacket) : (validate p s).radioView = s.radioView :=
  radioView_deliver (s.putCrc (packetCrc p)) _

theorem radioView_receive (a : Option (Bytes × Nat)) : (receive a s).radioView = s.radioView := by
  rcases receive_cases a s with ⟨-, he⟩ | ⟨_, _, _, -, -, he⟩ | ⟨_, _, _, -, -, he⟩
  · rw [he]; rfl
  · rw [he]; exact radioView_deliver s _
  · rw [he]; exact radioView_validate s _

theorem radioView_stripStage (raw : Bytes) : (stripStage raw s).radioView = s.radioView := by
  rcases stripStage_cases raw s with ⟨_, -, he⟩ | ⟨_, -, he⟩
  · rw [he]; rfl
  · rw [he]; exact radioView_deliver s _

theorem radioView_initWith (connected : Bool) (id : BitVec 24) (q : Byte) (c : SessionConfig) :
    (initWith connected id q c s).radioView = s.radioView := by
  cases connected with
  | true => rfl
  | false => rfl

theorem radioView_decodeWith (m l : Nat) (raw : Bytes) : (decodeWith m l raw s).radioView = s.radioView := by
  unfold decodeWith
  split
  · rfl
  · rfl

theorem radioView_sendDone (fails : Nat) (cmd : Option Command) : (sendDone fails cmd s).radioView = s.radioView := by
  cases cmd with
  | none => rfl
  | some c =>
    rw [sendDone_some]
    rcases commandSent_cases c fails s with ⟨_, -, he⟩ | ⟨-, he⟩
    · rw [he]; rfl
    · rw [he]; rfl

theorem radioView_beginSend (f : Bytes) (fails : Nat) (cmd : Option Command) :
    (beginSend f fails cmd s).radioView = s.radioView := by
  by_cases h : s.cfg.repeatCount = 0
  · rw [beginSend_zero h]; exact radioView_sendDone s fails cmd
  · rw [beginSend_pos h]; rfl

end views

theorem radioView_execPayload {s t : State} {p : DecodedPacket} (h : execPayload p s = .next t) :
    t.radioView = s.radioView := by
  unfold execPayload at h
  split at h
  · obtain rfl := Host.Outcome.next.inj h; exact radioView_validate s p
  · obtain rfl := Host.Outcome.next.inj h; exact radioView_validate s p
  · exact nomatch h

theorem radioView_execCapture {s t : State} {raw : Bytes} (h : execCapture raw s = .next t) :
    t.radioView = s.radioView := by
  unfold execCapture at h
  split at h
  · obtain rfl := Host.Outcome.next.inj h; exact radioView_stripStage s raw
  · obtain rfl := Host.Outcome.next.inj h; exact radioView_guarded (radioView_stripStage s raw)
  · exact nomatch h

/-- What a step that is no switch does: it keeps the view, or resets the block after a release (R374, R375). -/
inductive NoSwitch (s t : State) : Prop
  | keeps (view : t.radioView = s.radioView := by rfl)
  | resets (ρ : Response) (idle : t.radioState = .idle := by rfl) (closed : t.inited = false := by rfl)
      (trace : t.trace = .response ρ :: .release :: s.trace := by rfl)

namespace NoSwitch

variable {s t : State}

/-- Taking an item is no part of the view. -/
theorem of_taken {p : Option Item} {h : List Request} (hs : NoSwitch { s with path := p, host := h } t) : NoSwitch s t := by
  cases hs with
  | keeps view => exact .keeps view
  | resets ρ idle closed trace => exact .resets ρ idle closed trace

/-! The steps of the loops. -/

theorem of_sendStep (f : Bytes) (rep fails : Nat) (ph : LoopPhase) (cmd : Option Command) :
    NoSwitch s (sendStep f rep fails ph cmd s) := by
  cases ph with
  | act => exact .keeps
  | wait => exact .keeps
  | sample =>
    rcases sendStep_sample_cases f rep fails cmd s with ⟨-, he⟩ | ⟨-, -, he⟩ | ⟨-, -, he⟩
    · rw [he]; exact .resets _
    · rw [he]; exact .keeps
    · rw [he]; exact .keeps (radioView_sendDone _ fails cmd)

/-- Between two attempts of `TRYSW`. -/
theorem of_tryStep {ph : LoopPhase} (hph : ph ≠ .act) (d : Direction) (fb : Bool) (n : Nat) :
    NoSwitch s (tryStep d fb n ph s) := by
  cases ph with
  | act => exact absurd rfl hph
  | wait => exact .keeps
  | sample =>
    rcases tryStep_sample_cases d fb n s with ⟨-, he⟩ | ⟨-, he⟩
    · rw [he]; exact .resets _
    · rw [he]; exact .keeps

theorem of_listenStep (ph : LoopPhase) : NoSwitch s (listenStep ph s) := by
  cases ph with
  | act =>
    rcases listenStep_act_cases s with ⟨-, he⟩ | ⟨_, _, -, he⟩
    · rw [he]; exact .keeps
    · rw [he]; exact .keeps
  | wait => exact .keeps
  | sample =>
    rcases listenStep_sample_cases s with ⟨-, he⟩ | ⟨-, he⟩
    · rw [he]; exact .resets _
    · rw [he]; exact .keeps

theorem of_continueRun {r : Running} (hr : ∀ d fb n, r ≠ .trysw d fb n .act) (h : continueRun r s = .next t) :
    NoSwitch s t := by
  cases r with
  | emit c fails => exact nomatch h
  | send f rep fails ph cmd => obtain rfl := Host.Outcome.next.inj h; exact of_sendStep f rep fails ph cmd
  | trysw d fb n ph =>
    obtain rfl := Host.Outcome.next.inj h
    exact of_tryStep (by rintro rfl; exact hr d fb n rfl) d fb n
  | listen ph => obtain rfl := Host.Outcome.next.inj h; exact of_listenStep ph

/-! The instructions. -/

/-- An operation of the host that is not `SWMODE`. -/
theorem exec_operation {i : Instr} {r : Request} (hk : encode i = .request r) (hi : ∀ d, i ≠ .swmode d) (s : State) :
    ∃ t, exec i s = .next t ∧ NoSwitch s t := by
  cases i with
  | init id q c => exact ⟨_, rfl, .keeps (radioView_guarded (radioView_initWith (drvIsConnected s).2 _ id q c))⟩
  | shutdown => exact ⟨_, rfl, .resets _⟩
  | encodeOp id code counter sep =>
    show ∃ t, execEncode id code counter sep s = .next t ∧ _
    unfold execEncode
    split
    · exact ⟨_, rfl, .keeps⟩
    · exact ⟨_, rfl, .keeps⟩
  | decodeOp raw strip =>
    show ∃ t, execDecode raw strip s = .next t ∧ _
    unfold execDecode
    split
    · exact ⟨_, rfl, .keeps (radioView_decodeWith s _ _ raw)⟩
    · exact ⟨_, rfl, .keeps⟩
  | crcSum w win =>
    show ∃ t, execCrcSum w win s = .next t ∧ _
    unfold execCrcSum
    split
    · exact ⟨_, rfl, .keeps⟩
    · exact ⟨_, rfl, .keeps⟩
  | goodpkt | crcStart | crcByte | crcRead => exact ⟨_, rfl, .keeps⟩
  | pwr | cool | warm | brt | dim | rst | setbrt | setct | scaleBrt | scaleCt | listen =>
    exact ⟨_, rfl, .keeps (radioView_guarded rfl)⟩
  | send f => exact ⟨_, rfl, .keeps (radioView_guarded (radioView_beginSend s f 0 none))⟩
  | swmode d => exact absurd rfl (hi d)
  | trysw d fb =>
    refine ⟨_, rfl, .keeps (radioView_guarded ?_)⟩
    split
    · exact radioView_exhausted s fb 0
    · rfl
  | rxpoll => exact ⟨_, rfl, .keeps (radioView_guarded (radioView_receive (drvPoll s).2 _))⟩
  | _ => exact nomatch hk

theorem of_exec {i : Instr} (hi : ∀ d, i ≠ .swmode d) (h : exec i s = .next t) : NoSwitch s t := by
  cases hk : encode i with
  | request r =>
    obtain ⟨t', ht', hno⟩ := exec_operation hk hi s
    obtain rfl := Host.Outcome.next.inj (h.symm.trans ht')
    exact hno
  | code w =>
    rw [exec_of_encode_code hk] at h
    rcases emitCode_cases h with ⟨c, fails, -, rfl⟩ | ⟨-, rfl⟩ | ⟨-, rfl⟩
    · exact .keeps
    · exact .keeps
    · exact .keeps
  | frame f =>
    rw [exec_of_encode_frame hk] at h
    rcases emitFrame_cases h with ⟨c, fails, -, rfl⟩ | ⟨-, rfl⟩ | ⟨-, rfl⟩
    · exact .keeps (radioView_beginSend s f fails (some c))
    · exact .keeps (radioView_beginSend s f 0 none)
    · exact .keeps
  | payload p =>
    obtain ⟨q, rfl⟩ := eq_payload_of_encode hk
    exact .keeps (radioView_execPayload h)
  | capture raw =>
    obtain rfl := eq_capture_of_encode hk
    exact .keeps (radioView_execCapture h)

/-- The two conditions say what the step is not: a `SWMODE` that is fetched, and an attempt of `TRYSW`. -/
theorem of_step (h : step s = .next t) (hsw : ¬∃ item d, fetch s = some item ∧ decode item = .ok (.swmode d))
    (htry : ¬∃ d fb n, fetch s = none ∧ s.running = some (.trysw d fb n .act)) : NoSwitch s t := by
  rcases step_cases h with ⟨item, i, hp, hd, he⟩ | ⟨r, -, rfl⟩ | ⟨r, hp, hr, he⟩ | ⟨r, rest, i, hp, hr, hh, hd, he⟩ |
    ⟨r, rest, -, -, -, rfl⟩ | ⟨-, -, -, rfl⟩
  · have hfetch : fetch s = some item := by simp [fetch, hp]
    refine of_taken (of_exec (s := s.putPath none) ?_ he)
    rintro d rfl
    exact hsw ⟨item, d, hfetch, hd⟩
  · exact .keeps
  · have hfetch : fetch s = none := by simp [fetch, hp, hr]
    refine of_continueRun ?_ he
    rintro d fb n rfl
    exact htry ⟨d, fb, n, hfetch, hr⟩
  · have hfetch : fetch s = some (.request r) := by simp [fetch, hp, hr, hh]
    refine of_taken (of_exec (s := s.putHost rest) ?_ he)
    rintro d rfl
    exact hsw ⟨.request r, d, hfetch, hd⟩
  · exact .keeps
  · exact .keeps

end NoSwitch

/-- Settles O39: the events that a step adds are those of `eventsAreOnlyAdded`; a step that keeps the view adds no call of a
switch, and one that resets the block adds a release and a response. -/
theorem onlyTheArbiterSwitchesTheRadio : Obligations.OnlyTheArbiterSwitchesTheRadio := by
  intro s t h hsw htry
  obtain ⟨-, new, hnew⟩ := eventsAreOnlyAdded s t h
  refine ⟨new, hnew, ?_⟩
  cases NoSwitch.of_step h hsw htry with
  | keeps hview =>
    obtain ⟨hradio, -⟩ := Prod.mk.inj hview
    exact ⟨fun e he => Event.not_switch (no_switchCalls hview hnew e he), .inl hradio⟩
  | resets ρ hidle hclosed htrace =>
    obtain rfl : new = [.response ρ, .release] := List.append_cancel_right (hnew.symm.trans htrace)
    exact ⟨by simp, .inr ⟨hidle, hclosed, by simp⟩⟩

end Sys2Proof.Machine

/-! ## Every run goes on

Under the invariant each of the things a step can take has a next state: the word on the data path belongs to the operation
that runs and the decoder reads it, a running operation without a word is one of the three loops, and a request is executed or
refused. -/

namespace Sys2Proof.Machine

/-- The decoder reads a frame of a session. -/
theorem decode_of_sessionFrame {s : State} {k : Byte} {f : Bytes} (hf : sessionFrame s k f) :
    ∃ i, decode (.frame f) = .ok i := by
  obtain ⟨code, rfl⟩ := hf
  exact ⟨_, decodeFrame_frameBytes ..⟩

/-- Of the running operations only a command operation that waits for its word has no step of its own. -/
theorem continueRun_of_ne_emit {r : Running} (hr : ∀ c fails, r ≠ .emit c fails) (s : State) :
    ∃ t, continueRun r s = .next t := by
  cases r with
  | emit c fails => exact absurd rfl (hr c fails)
  | send | trysw | listen => exact ⟨_, rfl⟩

/-- A request in an idle block is executed or refused. -/
theorem step_of_host {s : State} {r : Request} {rest : List Request} (hp : s.path = none) (hr : s.running = none)
    (hh : s.host = r :: rest) : ∃ t, step s = .next t := by
  cases hd : decode (.request r) with
  | ok i =>
    obtain ⟨_, hkind⟩ := decode_request_kind hd
    obtain ⟨t, ht, -⟩ := exec_operation hkind (s.putHost rest)
    exact ⟨t, (step_of_request hp hr hh hd).trans ht⟩
  | error _ => exact ⟨_, step_of_rejected_request hp hr hh hd⟩

namespace State.Inv

variable {s : State}

/-- The decoder reads every word on the data path. -/
theorem decode_of_path (hs : s.Inv) {item : Item} (hp : s.path = some item) : ∃ i, decode item = .ok i := by
  rcases pathOk_cases hs.onPath with ⟨hnone, -⟩ | ⟨w, _, _, hw, -, hlisted⟩ | ⟨f, _, _, hw, -, hframe⟩ |
    ⟨raw, hw, -⟩ | ⟨p, hw, -⟩
  · exact nomatch hp.symm.trans hnone
  all_goals obtain rfl := Option.some.inj (hp.symm.trans hw)
  · exact hlisted
  · exact decode_of_sessionFrame hframe
  · exact ⟨_, rfl⟩
  · exact ⟨_, rfl⟩

/-- With no word on the data path the running operation is none that waits for one. -/
theorem running_ne_emit (hs : s.Inv) (hp : s.path = none) (c : Command) (fails : Nat) :
    s.running ≠ some (.emit c fails) := by
  rcases pathOk_cases hs.onPath with ⟨-, hne⟩ | ⟨_, _, _, hw, -⟩ | ⟨_, _, _, hw, -⟩ | ⟨_, hw, -⟩ | ⟨_, hw, -⟩
  · exact hne c fails
  all_goals exact nomatch hp.symm.trans hw

/-- Every step leads to a next state, by what it takes. -/
theorem step_goesOn (hs : s.Inv) : ∃ t, step s = .next t := by
  cases hp : s.path with
  | some item =>
    obtain ⟨i, hd⟩ := hs.decode_of_path hp
    obtain ⟨t, ht, -⟩ := hs.of_word hp hd
    exact ⟨t, (step_of_path hp hd).trans ht⟩
  | none =>
    cases hr : s.running with
    | some r =>
      obtain ⟨t, ht⟩ := continueRun_of_ne_emit (fun c fails he => hs.running_ne_emit hp c fails (he ▸ hr)) s
      exact ⟨t, (step_of_running hp hr).trans ht⟩
    | none =>
      cases hh : s.host with
      | nil => exact ⟨s, step_of_nothing hp hr hh⟩
      | cons r rest => exact step_of_host hp hr hh

end State.Inv

/-- Settles O59, by induction on the number of steps: a step leads to a next state, which meets the invariant again. -/
theorem theBlockNeverStops : Obligations.TheBlockNeverStops := by
  intro s hs k
  induction k generalizing s with
  | zero => exact ⟨s, runSteps_zero s, hs⟩
  | succ k ih =>
    obtain ⟨t, ht⟩ := hs.step_goesOn
    rw [runSteps_succ ht]
    exact ih t (everyStepKeepsTheInvariant s t hs ht)

end Sys2Proof.Machine

/-! ## The Remote Decoder

What is left of a capture, by its length; where a report goes; then `RXPOLL` in one step, and the poll of `LISTEN` with the words
it puts on the data path, each on what the driver answers and on what the strip makes of it. -/

namespace Sys2Proof.Machine

/-! The strip with the session's constants (R311, R312). -/

section strip

variable {s : State} {raw : Bytes}

theorem sessionStrip_tooShort
    (h : raw.length < s.cfg.capLen.toNat ∨ 8 * raw.length < s.cfg.stripMsb.toNat + s.cfg.stripLsb.toNat + 72) :
    sessionStrip raw s = .error .tooShort := by
  rcases sessionStrip_cases raw s with ⟨-, he⟩ | ⟨_, _, -⟩ | ⟨_, _, -⟩
  · exact he
  all_goals omega

theorem sessionStrip_unpackMismatch (hcap : s.cfg.capLen.toNat ≤ raw.length)
    (h : s.cfg.stripMsb.toNat + s.cfg.stripLsb.toNat + 72 < 8 * raw.length) :
    sessionStrip raw s = .error .unpackMismatch := by
  rcases sessionStrip_cases raw s with ⟨_, -⟩ | ⟨-, -, he⟩ | ⟨_, _, -⟩
  · omega
  · exact he
  · omega

theorem sessionStrip_ok (hcap : s.cfg.capLen.toNat ≤ raw.length)
    (h : 8 * raw.length = s.cfg.stripMsb.toNat + s.cfg.stripLsb.toNat + 72) :
    sessionStrip raw s = .ok (BitVec.ofNat 72 (intBe raw >>> s.cfg.stripLsb.toNat)) := by
  rcases sessionStrip_cases raw s with ⟨_, -⟩ | ⟨_, _, -⟩ | ⟨-, -, he⟩
  · omega
  · omega
  · exact he

/-- A capture of another length than the constants ask for is not decoded. -/
theorem sessionStrip_error (h : 8 * raw.length ≠ s.cfg.stripMsb.toNat + s.cfg.stripLsb.toNat + 72) :
    ∃ d, sessionStrip raw s = .error d := by
  rcases sessionStrip_cases raw s with ⟨-, he⟩ | ⟨-, -, he⟩ | ⟨-, heq, -⟩
  · exact ⟨_, he⟩
  · exact ⟨_, he⟩
  · exact absurd heq h

end strip

/-! Where a report goes (R313, R314). -/

/-- The answer to a packet that was received: the packet, and whether its checksum is the recomputed one (R156). -/
def receivedReply (p : DecodedPacket) : Response := ⟨.ok, false, .received p (decide (packetCrc p = p.crc))⟩

/-- The answer to a capture that does not decode (R334). -/
def discardedReply (d : DecodeDetail) : Response := ⟨.frameDecodeError, false, .captureError d⟩

section reports

variable {s : State}

theorem deliver_of_listen {ph : LoopPhase} (hr : s.running = some (.listen ph)) (ρ : Response) :
    deliver ρ s = { s with trace := .report ρ :: s.trace } := by
  rcases deliver_cases ρ s with ⟨_, -, he⟩ | ⟨hne, -⟩
  · exact he
  · exact absurd hr (hne ph)

theorem deliver_of_no_operation (hr : s.running = none) (ρ : Response) :
    deliver ρ s = { s with trace := .response ρ :: s.trace } := by
  rcases deliver_cases ρ s with ⟨_, hlisten, -⟩ | ⟨-, he⟩
  · exact nomatch hr.symm.trans hlisten
  · exact he

theorem validate_of_listen {ph : LoopPhase} (hr : s.running = some (.listen ph)) (p : DecodedPacket) :
    validate p s = { s with crcReg := packetCrc p, trace := .report (receivedReply p) :: s.trace } :=
  deliver_of_listen (s := s.putCrc (packetCrc p)) hr (receivedReply p)

theorem validate_of_no_operation (hr : s.running = none) (p : DecodedPacket) :
    validate p s = { s with crcReg := packetCrc p, trace := .response (receivedReply p) :: s.trace } :=
  deliver_of_no_operation (s := s.putCrc (packetCrc p)) hr (receivedReply p)

end reports

/-! `RXPOLL` (R311, R312). -/

theorem receive_of_error {s : State} {bytes : Bytes} {pipe : Nat} {d : DecodeDetail} (hr : s.running = none)
    (hstrip : sessionStrip (bytes.take s.cfg.capLen.toNat) s = .error d) :
    receive (some (bytes, pipe)) s = { s with trace := .response (discardedReply d) :: s.trace } := by
  rw [receive, captured, hstrip]
  exact deliver_of_no_operation hr (discardedReply d)

theorem receive_of_ok {s : State} {bytes : Bytes} {pipe : Nat} {p : BitVec 72} (hr : s.running = none)
    (hstrip : sessionStrip (bytes.take s.cfg.capLen.toNat) s = .ok p) : receive (some (bytes, pipe)) s =
      { s with
        crcReg := packetCrc (unpackPayload p), trace := .response (receivedReply (unpackPayload p)) :: s.trace } := by
  rw [receive, captured, hstrip]
  exact validate_of_no_operation hr (unpackPayload p)

section rxpoll

variable {s : State} {e : Env} {bytes : Bytes} {pipe : Nat} (h : ready s = true)

include h

theorem exec_rxpoll : exec .rxpoll s = .next
    (receive s.env.drawPoll.1 { s with env := s.env.drawPoll.2, trace := .pollAvailable :: s.trace }) := by
  rw [exec, execRxpoll, if_pos h, drvPoll_eq]

theorem exec_rxpoll_of_nothing (hd : s.env.drawPoll = (none, e)) : exec .rxpoll s = .next
    { s with env := e, trace := .response ⟨.ok, false, .nothingAvailable⟩ :: .pollAvailable :: s.trace } := by
  rw [exec_rxpoll h, hd]
  rfl

theorem exec_rxpoll_of_error {d : DecodeDetail} (hr : s.running = none) (hd : s.env.drawPoll = (some (bytes, pipe), e))
    (hstrip : sessionStrip (bytes.take s.cfg.capLen.toNat) s = .error d) : exec .rxpoll s = .next
      { s with env := e, trace := .response (discardedReply d) :: .pollAvailable :: s.trace } := by
  rw [exec_rxpoll h, hd]
  exact congrArg _ (receive_of_error (s := { s with env := e, trace := .pollAvailable :: s.trace }) hr hstrip)

theorem exec_rxpoll_of_ok {p : BitVec 72} (hr : s.running = none) (hd : s.env.drawPoll = (some (bytes, pipe), e))
    (hstrip : sessionStrip (bytes.take s.cfg.capLen.toNat) s = .ok p) : exec .rxpoll s = .next
      { s with
        env := e, crcReg := packetCrc (unpackPayload p)
        trace := .response (receivedReply (unpackPayload p)) :: .pollAvailable :: s.trace } := by
  rw [exec_rxpoll h, hd]
  exact congrArg _ (receive_of_ok (s := { s with env := e, trace := .pollAvailable :: s.trace }) hr hstrip)

end rxpoll

/-- Settles O40: the select code's row, and the strip of the first `CFG_CAP_LEN` bytes in each of its outcomes. -/
theorem rxpollReportsOneCapture : Obligations.RxpollReportsOneCapture := by
  refine ⟨fun _ hop => decodeRequest_of_lookup hop rfl, fun s e hi hf hr => ?_⟩
  have h := ready_of_session hi hf
  refine ⟨exec_rxpoll_of_nothing h, fun bytes pipe hd => ?_⟩
  have hlen : (bytes.take s.cfg.capLen.toNat).length = min s.cfg.capLen.toNat bytes.length := List.length_take
  refine ⟨fun hshort => ?_, fun hcap hlong => ?_, fun hcap hfits => ?_, fun hne => ?_⟩
  · exact exec_rxpoll_of_error h hr hd (sessionStrip_tooShort (by omega))
  · exact exec_rxpoll_of_error h hr hd (sessionStrip_unpackMismatch (by omega) (by omega))
  · exact exec_rxpoll_of_ok h hr hd (sessionStrip_ok (by omega) (by omega))
  · have herror : ∃ d, sessionStrip (bytes.take s.cfg.capLen.toNat) s = .error d := by
      by_cases hcap : bytes.length < s.cfg.capLen.toNat
      · exact ⟨_, sessionStrip_tooShort (by omega)⟩
      · exact sessionStrip_error (by omega)
    obtain ⟨d, hstrip⟩ := herror
    exact ⟨d, exec_rxpoll_of_error h hr hd hstrip⟩

/-! The rows of the data path while `LISTEN` runs. -/

section listenRows

variable {s : State} {ph : LoopPhase} (hr : s.running = some (.listen ph)) {raw : Bytes}

include hr

theorem exec_capture_of_ok {p : BitVec 72} (hstrip : sessionStrip raw s = .ok p) :
    exec (.capture raw) s = .next { s with path := some (.payload p) } := by
  rw [exec, execCapture_of_listen hr, stripStage, hstrip]
  rfl

theorem exec_capture_of_error {d : DecodeDetail} (hstrip : sessionStrip raw s = .error d) :
    exec (.capture raw) s = .next { s with trace := .report (discardedReply d) :: s.trace } := by
  rw [exec, execCapture_of_listen hr, stripStage, hstrip]
  exact congrArg _ (deliver_of_listen hr (discardedReply d))

theorem exec_payload_of_listen (p : DecodedPacket) : exec (.payload p) s = .next
    { s with crcReg := packetCrc p, trace := .report (receivedReply p) :: s.trace } := by
  rw [exec, execPayload_of_listen hr, validate_of_listen hr]

end listenRows

/-- Settles O45: the three outcomes of the strip, and the validation. -/
theorem capturesAndPayloadsAreReported : Obligations.CapturesAndPayloadsAreReported := by
  intro s ph hr
  refine ⟨fun raw => ⟨fun hcap hfits => ?_, fun hshort => ?_, fun hcap hlong => ?_⟩, exec_payload_of_listen hr⟩
  · exact exec_capture_of_ok hr (sessionStrip_ok hcap hfits)
  · exact exec_capture_of_error hr (sessionStrip_tooShort hshort)
  · exact exec_capture_of_error hr (sessionStrip_unpackMismatch hcap hlong)

/-! The steps of `LISTEN` (R314): the poll, then the words it puts on the data path. -/

theorem exec_listen {s : State} (h : ready s = true) : exec .listen s = .next { s with running := some (.listen .act) } := by
  rw [exec, execListen, if_pos h, State.putRunning]

/-- A poll of `LISTEN` has found `bytes`: the capture is on the data path. -/
def polled (bytes : Bytes) (e : Env) (s : State) : State :=
  { s with
    env := e, trace := .pollAvailable :: s.trace, running := some (.listen .wait)
    path := some (.capture (bytes.take s.cfg.capLen.toNat)) }

section listenSteps

variable {s : State} {e : Env} {bytes : Bytes} {pipe : Nat} {ph : LoopPhase}

theorem step_listen (hp : s.path = none) (hr : s.running = some (.listen ph)) : step s = .next (listenStep ph s) :=
  step_of_running hp hr

theorem step_poll_of_nothing (hp : s.path = none) (hr : s.running = some (.listen .act))
    (hd : s.env.drawPoll = (none, e)) : step s = .next
      { s with env := e, trace := .pollAvailable :: s.trace, running := some (.listen .wait) } := by
  rw [step_listen hp hr, listenStep, drvPoll_eq, hd]
  rfl

theorem step_poll_of_capture (hp : s.path = none) (hr : s.running = some (.listen .act))
    (hd : s.env.drawPoll = (some (bytes, pipe), e)) : step s = .next (polled bytes e s) := by
  rw [step_listen hp hr, listenStep, drvPoll_eq, hd]
  rfl

theorem step_capture_of_ok {raw : Bytes} {p : BitVec 72} (hp : s.path = some (.capture raw))
    (hr : s.running = some (.listen ph)) (hstrip : sessionStrip raw s = .ok p) :
    step s = .next { s with path := some (.payload p) } :=
  (step_of_path hp rfl).trans (exec_capture_of_ok (s := s.putPath none) hr hstrip)

theorem step_capture_of_error {raw : Bytes} {d : DecodeDetail} (hp : s.path = some (.capture raw))
    (hr : s.running = some (.listen ph)) (hstrip : sessionStrip raw s = .error d) :
    step s = .next { s with path := none, trace := .report (discardedReply d) :: s.trace } :=
  (step_of_path hp rfl).trans (exec_capture_of_error (s := s.putPath none) hr hstrip)

theorem step_payload {p : BitVec 72} (hp : s.path = some (.payload p)) (hr : s.running = some (.listen ph)) :
    step s = .next
      { s with
        path := none, crcReg := packetCrc (unpackPayload p)
        trace := .report (receivedReply (unpackPayload p)) :: s.trace } :=
  (step_of_path hp rfl).trans (exec_payload_of_listen (s := s.putPath none) hr (unpackPayload p))

/-! One poll, up to the wait that follows it: one step for each stage that it reaches. -/

theorem runSteps_poll_of_nothing (hp : s.path = none) (hr : s.running = some (.listen .act))
    (hd : s.env.drawPoll = (none, e)) : runSteps 1 s = .next
      { s with env := e, running := some (.listen .wait), trace := .pollAvailable :: s.trace } := by
  rw [runSteps_succ (step_poll_of_nothing hp hr hd), runSteps_zero]

theorem runSteps_poll_of_error {d : DecodeDetail} (hp : s.path = none) (hr : s.running = some (.listen .act))
    (hd : s.env.drawPoll = (some (bytes, pipe), e))
    (hstrip : sessionStrip (bytes.take s.cfg.capLen.toNat) s = .error d) : runSteps 2 s = .next
      { s with
        env := e, running := some (.listen .wait), trace := .report (discardedReply d) :: .pollAvailable :: s.trace } := by
  rw [runSteps_succ (step_poll_of_capture hp hr hd),
    runSteps_succ (step_capture_of_error (s := polled bytes e s) rfl rfl hstrip), runSteps_zero, hp]
  rfl

theorem runSteps_poll_of_ok {p : BitVec 72} (hp : s.path = none) (hr : s.running = some (.listen .act))
    (hd : s.env.drawPoll = (some (bytes, pipe), e))
    (hstrip : sessionStrip (bytes.take s.cfg.capLen.toNat) s = .ok p) : runSteps 3 s = .next
      { s with
        env := e, running := some (.listen .wait), crcReg := packetCrc (unpackPayload p)
        trace := .report (receivedReply (unpackPayload p)) :: .pollAvailable :: s.trace } := by
  rw [runSteps_succ (step_poll_of_capture hp hr hd),
    runSteps_succ (step_capture_of_ok (s := polled bytes e s) rfl rfl hstrip), runSteps_succ (step_payload rfl rfl),
    runSteps_zero, hp]
  rfl

end listenSteps

/-- Settles O41: on each answer of the driver, and each outcome of the strip, `RXPOLL` and the poll of `LISTEN` side by
side. -/
theorem listenReportsWhatRxpollAnswers : Obligations.ListenReportsWhatRxpollAnswers := by
  refine ⟨fun _ hop => decodeRequest_of_lookup hop rfl, fun s hi hf hp => ?_⟩
  have h := ready_of_session hi hf
  refine ⟨exec_listen h, fun hr => ?_⟩
  have hact : State.running { s with running := some (.listen .act) } = some (.listen .act) := rfl
  rcases hd : s.env.drawPoll with ⟨_ | ⟨bytes, pipe⟩, e⟩
  · exact ⟨_, _, _, 1, _, exec_rxpoll_of_nothing h hd, rfl, by decide, by decide,
      runSteps_poll_of_nothing hp hact hd, by rw [if_pos rfl]⟩
  · cases hstrip : sessionStrip (bytes.take s.cfg.capLen.toNat) s with
    | error d =>
      exact ⟨_, _, _, 2, _, exec_rxpoll_of_error h hr hd hstrip, rfl, by decide, by decide,
        runSteps_poll_of_error hp hact hd hstrip, by rw [if_neg nofun]⟩
    | ok p =>
      exact ⟨_, _, _, 3, _, exec_rxpoll_of_ok h hr hd hstrip, rfl, by decide, by decide,
        runSteps_poll_of_ok hp hact hd hstrip, by rw [if_neg nofun]⟩

/-- A step of the poll loop stays in it, or is a sample at which `shutdown_req` is true (R316). -/
theorem listenStep_running (ph : LoopPhase) (s : State) :
    (∃ ph', (listenStep ph s).running = some (.listen ph')) ∨ (ph = .sample ∧ s.env.drawShutdown.1 = true) := by
  cases ph with
  | act =>
    rcases listenStep_act_cases s with ⟨-, he⟩ | ⟨_, _, -, he⟩
    · exact .inl ⟨.wait, by rw [he]⟩
    · exact .inl ⟨.wait, by rw [he]⟩
  | wait => exact .inl ⟨.sample, rfl⟩
  | sample =>
    rcases listenStep_sample_cases s with ⟨hshutdown, -⟩ | ⟨-, he⟩
    · exact .inr ⟨rfl, hshutdown⟩
    · exact .inl ⟨.act, by rw [he]⟩

/-- Settles O42: the step of the loop, and the steps that take a capture or a payload, which leave the running operation as
it is. -/
theorem listenEndsOnlyByShutdown : Obligations.ListenEndsOnlyByShutdown := by
  rintro s ph hr (hp | ⟨-, ⟨raw, hp⟩ | ⟨p, hp⟩⟩)
  · refine ⟨_, step_listen hp hr, (listenStep_running ph s).imp_right fun hsample => ⟨hp, hsample⟩, ?_⟩
    rintro - rfl
    exact ⟨rfl, rfl⟩
  · cases hstrip : sessionStrip raw s with
    | ok p => exact ⟨_, step_capture_of_ok hp hr hstrip, .inl ⟨ph, hr⟩, fun hnone => nomatch hp.symm.trans hnone⟩
    | error d => exact ⟨_, step_capture_of_error hp hr hstrip, .inl ⟨ph, hr⟩, fun hnone => nomatch hp.symm.trans hnone⟩
  · exact ⟨_, step_payload hp hr, .inl ⟨ph, hr⟩, fun hnone => nomatch hp.symm.trans hnone⟩

end Sys2Proof.Machine

/-! ## Refusals outside a session

R337 (b) and (c) with R51. An operation reads session state in one of three ways: it is guarded as a whole, it is a command
operation, which `startCommand` guards, or it takes an operand that its request leaves out from the session. -/

namespace Sys2Proof.Machine

theorem not_ready_of_no_session {s : State} (h : s.inited = false ∨ s.hwFault = true) : ¬ ready s = true := by
  rw [ready_iff]
  rintro ⟨hi, hf⟩
  rcases h with hno | hfault
  · exact absurd (hi.symm.trans hno) nofun
  · exact absurd (hf.symm.trans hfault) nofun

section outsideASession

variable {s : State} (h : ¬ ready s = true)

include h

/-- The command operations (R227, R240, R241), whatever their codes are. -/
theorem next_startCommand_not_ready (code : BitVec 16) (next : Option (BitVec 16)) (ctr : Option Byte) :
    (.next (startCommand code next ctr s) : Host.Outcome State Fault Refusal) = .next (refuse s) := by
  rw [startCommand, if_neg h]

/-! The operations that are guarded as a whole. -/

theorem exec_rxpoll_not_ready : exec .rxpoll s = .next (refuse s) := by
  rw [exec, execRxpoll, if_neg h]

theorem exec_listen_not_ready : exec .listen s = .next (refuse s) := by
  rw [exec, execListen, if_neg h]

theorem exec_swmode_not_ready (d : Direction) : exec (.swmode d) s = .next (refuse s) := by
  rw [exec, execSwmode, if_neg h]

theorem exec_trysw_not_ready (d : Direction) (fb : Bool) : exec (.trysw d fb) s = .next (refuse s) := by
  rw [exec, execTrysw, if_neg h]

/-- Whatever the length of the sequence. -/
theorem exec_send_not_ready (f : Bytes) : exec (.send f) s = .next (refuse s) := by
  rw [exec_send, if_neg fun ⟨hready, _⟩ => h hready]

/-! The two operations that take an operand from the session: without the session the operand is missing. -/

theorem exec_encodeOp_none_not_ready (id : BitVec 24) (code : BitVec 16) (counter : Byte) :
    exec (.encodeOp id code counter none) s = .next (refuse s) := by
  have hsep : sepOperand none s = none := if_neg h
  rw [exec, execEncode, hsep]

theorem exec_decodeOp_none_not_ready (raw : Bytes) : exec (.decodeOp raw none) s = .next (refuse s) := by
  have hstrip : stripOperand none s = none := if_neg h
  rw [exec, execDecode, hstrip]

end outsideASession

/-- Settles O4, operation by operation; the eight command operations share the guard of `startCommand`. -/
theorem sessionOperationsRefusedOutsideASession : Obligations.SessionOperationsRefusedOutsideASession := by
  intro s i hno hop
  have h := not_ready_of_no_session hno
  rw [← refuse_eq]
  obtain rfl | rfl | ⟨id, code, counter, rfl⟩ | ⟨raw, rfl⟩ | ⟨ctr, rfl | rfl⟩ | ⟨step, ctr, rfl | rfl | rfl | rfl⟩ |
    ⟨value, ctr, rfl | rfl⟩ | ⟨f, rfl⟩ | ⟨d, rfl⟩ | ⟨d, fb, rfl⟩ := hop
  · exact exec_rxpoll_not_ready h
  · exact exec_listen_not_ready h
  · exact exec_encodeOp_none_not_ready h id code counter
  · exact exec_decodeOp_none_not_ready h raw
  iterate 8
    · exact next_startCommand_not_ready h _ _ ctr
  · exact exec_send_not_ready h f
  · exact exec_swmode_not_ready h d
  · exact exec_trysw_not_ready h d fb

end Sys2Proof.Machine

/-! ## Reset, start-up and shutdown

The reset state (R371), the two operations that start and end a session (R372, R374), and an accepted `shutdown_req` (R375),
which does what `SHUTDOWN` does. -/

namespace Sys2Proof.Machine

/-- Settles O1, at the values that `State.reset` writes down. -/
theorem resetLeavesTheSpecValues : Obligations.ResetLeavesTheSpecValues :=
  ⟨rfl, rfl, rfl, rfl, rfl, rfl⟩

/-- Settles O57: the reset state is the released block at its own build and boundary. -/
theorem resetMeetsTheInvariant : Obligations.ResetMeetsTheInvariant :=
  inv_of_reset _ _ _ _

/-! `INIT`. -/

theorem initAllowed_iff (s : State) : initAllowed s = true ↔ ¬(s.inited = true ∨ s.hwFault = true) := by
  simp [initAllowed]

section init

variable {s : State} {e : Env} (id : BitVec 24) (seq : Byte) (c : SessionConfig)

theorem exec_init_of_refused (h : s.inited = true ∨ s.hwFault = true) :
    exec (.init id seq c) s = .next (refuse s) := by
  rw [exec, execInit, if_neg fun hallowed => (initAllowed_iff s).mp hallowed h]

theorem exec_init_of_answer {a : Bool} (h : ¬(s.inited = true ∨ s.hwFault = true)) (hd : s.env.drawConnected = (a, e)) :
    exec (.init id seq c) s = .next
      (initWith a id seq c { s with env := e, trace := .isConnected :: s.trace }) := by
  rw [exec, execInit, if_pos ((initAllowed_iff s).mpr h), drvIsConnected_eq, hd]

theorem initWith_connected (s : State) : initWith true id seq c s =
    { s with
      devId := id, seqCtr := seq, cfg := c, inited := true
      trace := .response ⟨.ok, false, .none⟩ :: s.trace } := rfl

theorem initWith_unavailable (s : State) : initWith false id seq c s =
    { s with hwFault := true, trace := .response ⟨.hardwareUnavailable, false, .none⟩ :: s.trace } := rfl

end init

/-- Settles O2: the refusal, and the two answers of the transceiver. -/
theorem initStartsTheSession : Obligations.InitStartsTheSession := by
  refine ⟨fun _ hop => decodeRequest_of_lookup hop rfl, fun s id seq c a e hd => ?_⟩
  by_cases hno : s.inited = true ∨ s.hwFault = true
  · rw [exec_init_of_refused id seq c hno, if_pos hno, refuse_eq]
  · rw [exec_init_of_answer id seq c hno hd, if_neg hno]
    cases a with
    | true => rw [initWith_connected, if_pos rfl]
    | false => rw [initWith_unavailable, if_neg Bool.false_ne_true]

/-! `SHUTDOWN`, and a `shutdown_req` at a sampling point. -/

theorem exec_shutdown (s : State) : exec .shutdown s = .next ((shutDown s).respond ⟨.ok, false, .none⟩) := rfl

/-- Settles O3: the unspecified registers are those of the model's reset state. -/
theorem shutdownResetsTheBlock : Obligations.ShutdownResetsTheBlock := by
  refine ⟨fun _ hop => decodeRequest_of_lookup hop rfl, fun s => ⟨resetSeq, resetDev, resetCfg, ?_⟩⟩
  rw [exec_shutdown, shutDown_eq]
  rfl

/-- The running operation stands at a point where it samples `shutdown_req` (R375). -/
def State.samplesShutdown (s : State) : Prop :=
  (∃ f rep fails cmd, s.running = some (.send f rep fails .sample cmd)) ∨
    (∃ d fb n, s.running = some (.trysw d fb n .sample)) ∨ s.running = some (.listen .sample)

/-- All three loops abandon their operation in the same way. -/
theorem step_sample_of_shutdown {s : State} {e : Env} (hp : s.path = none) (hd : s.env.drawShutdown = (true, e))
    (h : s.samplesShutdown) : step s = .next (abort { s with env := e }) := by
  have haccepted : (sampleShutdown s).1 = true := by rw [sampleShutdown_eq, hd]
  have hsampled : (sampleShutdown s).2 = { s with env := e } := by rw [sampleShutdown_eq, hd]
  rcases h with ⟨f, rep, fails, cmd, hr⟩ | ⟨d, fb, n, hr⟩ | hr
  · rw [step_of_running hp hr, continueRun, sendStep, if_pos haccepted, hsampled]
  · rw [step_of_running hp hr, continueRun, tryStep, if_pos haccepted, hsampled]
  · rw [step_of_running hp hr, continueRun, listenStep, if_pos haccepted, hsampled]

/-- Settles O31: at a sampling point no word stands on the data path, so the reset leaves it as it was. -/
theorem shutdownRequestAbandonsTheOperation : Obligations.ShutdownRequestAbandonsTheOperation := by
  intro s e hp hd h
  refine ⟨resetSeq, resetDev, resetCfg, ?_⟩
  rw [step_sample_of_shutdown hp hd h, abort_eq, hp]
  rfl

end Sys2Proof.Machine

/-! ## What leaves `crc_reg` alone

R385 with R32. The stages that the operations and the loops share keep `crc_reg`; only a reset, after an accepted
`shutdown_req`, writes it inside a loop. -/

namespace Sys2Proof.Machine

/-! The shared stages. -/

section stages

variable (s : State)

@[simp] theorem crcReg_initWith (connected : Bool) (id : BitVec 24) (seq : Byte) (c : SessionConfig) :
    (initWith connected id seq c s).crcReg = s.crcReg := by
  cases connected with
  | true => rfl
  | false => rfl

@[simp] theorem crcReg_decodeWith (m l : Nat) (raw : Bytes) : (decodeWith m l raw s).crcReg = s.crcReg := by
  unfold decodeWith
  split
  · rfl
  · rfl

@[simp] theorem crcReg_sendDone (fails : Nat) (cmd : Option Command) : (sendDone fails cmd s).crcReg = s.crcReg := by
  cases cmd with
  | none => rfl
  | some c =>
    rw [sendDone_some]
    rcases commandSent_cases c fails s with ⟨_, -, he⟩ | ⟨-, he⟩
    · rw [he]
    · rw [he]

@[simp] theorem crcReg_beginSend (f : Bytes) (fails : Nat) (cmd : Option Command) :
    (beginSend f fails cmd s).crcReg = s.crcReg := by
  by_cases h : s.cfg.repeatCount = 0
  · rw [beginSend_zero h, crcReg_sendDone]
  · rw [beginSend_pos h]

@[simp] theorem crcReg_exhausted (fb : Bool) (n : Nat) : (exhausted fb n s).crcReg = s.crcReg := by
  rw [exhausted_eq]

@[simp] theorem crcReg_switchReply_attemptSwitch (d : Direction) :
    (switchReply (attemptSwitch d s)).crcReg = s.crcReg := by
  rcases attemptSwitch_cases d s with ⟨he, -⟩ | ⟨he, -⟩
  · rw [he]; rfl
  · rw [he]; rfl

end stages

/-- A refusal keeps `crc_reg`, so an operation with a condition does when its accepted case does. -/
theorem crcReg_guarded {s t : State} {p : Prop} [Decidable p] (h : t.crcReg = s.crcReg) :
    (if p then t else refuse s).crcReg = s.crcReg := by
  split
  · exact h
  · rfl

/-! The operations of R385's last sentence. -/

theorem crcReg_execDecode {s t : State} {raw : Bytes} {strip : Option (Nat × Nat)}
    (h : execDecode raw strip s = .next t) : t.crcReg = s.crcReg := by
  unfold execDecode at h
  split at h
  · obtain rfl := Host.Outcome.next.inj h; exact crcReg_decodeWith s _ _ raw
  · obtain rfl := Host.Outcome.next.inj h; rfl

theorem crcReg_execTrysw {s t : State} {d : Direction} {fb : Bool} (h : execTrysw d fb s = .next t) :
    t.crcReg = s.crcReg := by
  obtain rfl := Host.Outcome.next.inj h
  apply crcReg_guarded
  split
  · exact crcReg_exhausted s fb 0
  · rfl

/-! The steps of the loops. -/

theorem crcReg_sendStep (f : Bytes) (rep fails : Nat) (ph : LoopPhase) (cmd : Option Command) (s : State) :
    (sendStep f rep fails ph cmd s).crcReg = s.crcReg ∨ (ph = .sample ∧ s.env.drawShutdown.1 = true) := by
  cases ph with
  | act => exact .inl rfl
  | wait => exact .inl rfl
  | sample =>
    rcases sendStep_sample_cases f rep fails cmd s with ⟨hshutdown, -⟩ | ⟨-, -, he⟩ | ⟨-, -, he⟩
    · exact .inr ⟨rfl, hshutdown⟩
    · exact .inl (by rw [he])
    · exact .inl (by rw [he, crcReg_sendDone])

theorem crcReg_tryStep (d : Direction) (fb : Bool) (n : Nat) (ph : LoopPhase) (s : State) :
    (tryStep d fb n ph s).crcReg = s.crcReg ∨ (ph = .sample ∧ s.env.drawShutdown.1 = true) := by
  cases ph with
  | act =>
    rcases tryStep_act_cases d fb n s with ⟨-, he⟩ | ⟨-, -, he⟩ | ⟨-, -, he⟩
    · exact .inl (by rw [he, switchTo_eq])
    · exact .inl (by rw [he])
    · exact .inl (by rw [he, crcReg_exhausted])
  | wait => exact .inl rfl
  | sample =>
    rcases tryStep_sample_cases d fb n s with ⟨hshutdown, -⟩ | ⟨-, he⟩
    · exact .inr ⟨rfl, hshutdown⟩
    · exact .inl (by rw [he])

/-- Settles O56, operation by operation and then for a step of each loop. -/
theorem otherOperationsLeaveTheCrcRegister : Obligations.OtherOperationsLeaveTheCrcRegister := by
  refine ⟨fun s t i h hop => ?_, fun s t h hp ph hr => ?_⟩
  · rcases hop with ⟨raw, strip, rfl⟩ | ⟨d, rfl⟩ | ⟨b, rfl⟩ | ⟨m, rfl⟩ | ⟨id, seq, c, rfl⟩ | rfl | ⟨f, rfl⟩ | ⟨d, fb, rfl⟩
    · exact crcReg_execDecode h
    · obtain rfl := Host.Outcome.next.inj h
      exact crcReg_guarded (crcReg_switchReply_attemptSwitch s d)
    · obtain rfl := Host.Outcome.next.inj h
      exact crcReg_guarded rfl
    · obtain rfl := Host.Outcome.next.inj h
      exact crcReg_guarded rfl
    · obtain rfl := Host.Outcome.next.inj h
      exact crcReg_guarded (crcReg_initWith (drvIsConnected s).2 _ id seq c)
    · obtain rfl := Host.Outcome.next.inj h
      rfl
    · obtain rfl := Host.Outcome.next.inj h
      exact crcReg_guarded (crcReg_beginSend s f 0 none)
    · exact crcReg_execTrysw h
  · rcases hr with ⟨f, rep, fails, cmd, hr⟩ | ⟨d, fb, n, hr⟩
    · rw [step_of_running hp hr] at h
      obtain rfl := Host.Outcome.next.inj h
      exact crcReg_sendStep f rep fails ph cmd s
    · rw [step_of_running hp hr] at h
      obtain rfl := Host.Outcome.next.inj h
      exact crcReg_tryStep d fb n ph s

end Sys2Proof.Machine

/-! ## Words of the data path without their operation

The model's choices, log entries 4 and 5: what a word does when no operation runs, and when an operation runs that it does not
belong to. -/

namespace Sys2Proof.Machine

/-! No operation runs: a session is asked for, and the word's stage starts on its own (assumption 4). -/

section noOperation

variable {s : State} (hr : s.running = none)

include hr

theorem emitCode_of_no_operation (w : BitVec 16) : emitCode w s = .next
    (if ready s then (buildFrame w s.seqCtr s).putRunning (some (.emit ⟨s.seqCtr, true, 1, none⟩ 0)) else refuse s) := by
  simp [emitCode, hr]

theorem emitFrame_of_no_operation (f : Bytes) :
    emitFrame f s = .next (if ready s then beginSend f 0 none s else refuse s) := by
  simp [emitFrame, hr]

theorem execCapture_of_no_operation (raw : Bytes) :
    execCapture raw s = .next (if ready s then stripStage raw s else refuse s) := by
  simp [execCapture, hr]

theorem execPayload_of_no_operation (p : DecodedPacket) : execPayload p s = .next (validate p s) := by
  simp [execPayload, hr]

/-- The end of an operation that was never begun is its response alone. -/
theorem finish_of_no_operation (ρ : Response) : s.finish ρ = { s with trace := .response ρ :: s.trace } := by
  rw [finish_eq, ← hr]

/-- A frame that belongs to no command: its repetition loop, which is over at once when there is nothing to repeat. -/
theorem beginSend_of_no_operation (f : Bytes) : beginSend f 0 none s =
    if s.cfg.repeatCount = 0 then { s with trace := .response ⟨.ok, false, .writeFails 0⟩ :: s.trace }
    else { s with running := some (.send f 1 0 .act none) } :=
  if_congr Iff.rfl (finish_of_no_operation hr _) rfl

theorem stripStage_of_error {raw : Bytes} {d : DecodeDetail} (hstrip : sessionStrip raw s = .error d) :
    stripStage raw s = { s with trace := .response (discardedReply d) :: s.trace } := by
  rw [stripStage, hstrip]
  exact deliver_of_no_operation hr (discardedReply d)

/-- The strip by the length of the capture: what it discards is answered, for no `LISTEN` waits for a report. -/
theorem stripStage_of_no_operation (raw : Bytes) : stripStage raw s =
    if raw.length < s.cfg.capLen.toNat ∨ 8 * raw.length < s.cfg.stripMsb.toNat + s.cfg.stripLsb.toNat + 72 then
      { s with trace := .response ⟨.frameDecodeError, false, .captureError .tooShort⟩ :: s.trace }
    else if s.cfg.stripMsb.toNat + s.cfg.stripLsb.toNat + 72 < 8 * raw.length then
      { s with trace := .response ⟨.frameDecodeError, false, .captureError .unpackMismatch⟩ :: s.trace }
    else { s with path := some (.payload (BitVec.ofNat 72 (intBe raw >>> s.cfg.stripLsb.toNat))) } := by
  split
  · next hshort => exact stripStage_of_error hr (sessionStrip_tooShort hshort)
  · next hnotshort =>
    split
    · next hlong => exact stripStage_of_error hr (sessionStrip_unpackMismatch (by omega) hlong)
    · next hnotlong =>
      rw [stripStage, sessionStrip_ok (by omega) (by omega)]
      rfl

end noOperation

/-- The guard of a session, with the test and the refusal written out. -/
theorem ite_ready (s t : State) : (if ready s then t else refuse s) =
    if s.inited = true ∧ s.hwFault = false then t else { s with trace := .response ⟨.refused, false, .none⟩ :: s.trace } :=
  if_congr (ready_iff s) rfl (refuse_eq s)

/-- Settles O46, kind by kind of the word: the first three share the guard of a session. -/
theorem wordsOutsideAnOperation : Obligations.WordsOutsideAnOperation := by
  intro s i hr
  refine ⟨fun w hw => ?_, fun f hf => ?_, ?_, ?_⟩
  · rw [exec_of_encode_code hw, emitCode_of_no_operation hr, ite_ready]
    rfl
  · rw [exec_of_encode_frame hf, emitFrame_of_no_operation hr, ite_ready, beginSend_of_no_operation hr]
  · rintro raw rfl
    rw [exec, execCapture_of_no_operation hr, ite_ready, stripStage_of_no_operation hr]
  · rintro p rfl
    rw [exec, execPayload_of_no_operation hr, validate_of_no_operation hr, receivedReply]

/-! Another operation runs (assumption 5). -/

section misplaced

variable {s : State} {r : Running} (hr : s.running = some r)

include hr

theorem emitCode_misplaced (hne : ∀ c fails, r ≠ .emit c fails) (w : BitVec 16) :
    emitCode w s = .fault .brokenPath := by
  cases r with
  | emit c fails => exact absurd rfl (hne c fails)
  | send | trysw | listen => simp [emitCode, hr]

theorem emitFrame_misplaced (hne : ∀ c fails, r ≠ .emit c fails) (f : Bytes) :
    emitFrame f s = .fault .brokenPath := by
  cases r with
  | emit c fails => exact absurd rfl (hne c fails)
  | send | trysw | listen => simp [emitFrame, hr]

theorem execCapture_misplaced (hne : ∀ ph, r ≠ .listen ph) (raw : Bytes) : execCapture raw s = .fault .brokenPath := by
  cases r with
  | listen ph => exact absurd rfl (hne ph)
  | emit | send | trysw => simp [execCapture, hr]

theorem execPayload_misplaced (hne : ∀ ph, r ≠ .listen ph) (p : DecodedPacket) :
    execPayload p s = .fault .brokenPath := by
  cases r with
  | listen ph => exact absurd rfl (hne ph)
  | emit | send | trysw => simp [execPayload, hr]

end misplaced

/-- Settles O47: codes and frames belong to a command operation, captures and payloads to `LISTEN`. -/
theorem misplacedWordsStop : Obligations.MisplacedWordsStop := by
  intro s i r hr
  refine ⟨fun hword hne => ?_, fun hword hne => ?_⟩
  · obtain ⟨w, hw⟩ | ⟨f, hf⟩ := hword
    · rw [exec_of_encode_code hw, emitCode_misplaced hr hne]
    · rw [exec_of_encode_frame hf, emitFrame_misplaced hr hne]
  · obtain ⟨raw, rfl⟩ | ⟨p, rfl⟩ := hword
    · rw [exec, execCapture_misplaced hr hne]
    · rw [exec, execPayload_misplaced hr hne]

end Sys2Proof.Machine
